-- ==== Sys2Proof/Word.lean ====
section
/-! DEFINITION. The words of the part (16-bit registers and cells, link bytes), the numbered things
(ports, streams, aperture entries), the five requesters, and `Bank`, a fixed number of like things. -/

namespace Sys2Proof

/-- A register or a cell of the band store: 16 bits (ch 0, Register access; R1). -/
abbrev Word := BitVec 16

/-- A byte of a head link (R42). -/
abbrev Byte := BitVec 8

/-- The 32 data bits of a header, data bit 0 the least significant bit of the type (R48). -/
abbrev HeaderBits := BitVec 32

/-- Head ports P0..P3 (ch 0, Numbering). -/
abbrev Port := Fin 4

/-- Streams 0..3 of a port (ch 0, Numbering). -/
abbrev Stream := Fin 4

/-- Aperture table entries 0..31 (ch 0, Numbering). -/
abbrev ApIndex := Fin 32

/-- The five requesters of the store arbiter, which are also the five sources of faults (R4, R163). -/
inductive Source where
  | port (p : Port)
  | host
deriving DecidableEq, Repr

/-- The number of a source: 0..3 for P0..P3 and 4 for H (R187). -/
def Source.number : Source → Fin 5
  | .port p => ⟨p.val, by omega⟩
  | .host => 4

/-- A fixed number of like things. -/
structure Bank (n : Nat) (α : Type) where
  items : Vector α n
deriving DecidableEq, Repr

/-- A bank that holds the same thing everywhere. -/
def Bank.fill {α : Type} (n : Nat) (x : α) : Bank n α := ⟨Vector.replicate n x⟩

/-- A bank given place by place. -/
def Bank.tabulate {n : Nat} {α : Type} (f : Fin n → α) : Bank n α := ⟨Vector.ofFn f⟩

/-- The thing at a place. -/
def Bank.get {n : Nat} {α : Type} (b : Bank n α) (i : Fin n) : α := b.items.get i

/-- The bank with one place changed. -/
def Bank.set {n : Nat} {α : Type} (b : Bank n α) (i : Fin n) (x : α) : Bank n α :=
  ⟨b.items.set i.val x i.isLt⟩

/-- A register value with bit `k` as given and every other bit 0. -/
def Word.bit (k : Nat) (b : Bool) : Word := if b then BitVec.twoPow 16 k else 0

/-- A register value with the number `n` placed at bit `k` and up. -/
def Word.place (k n : Nat) : Word := BitVec.ofNat 16 (n * 2 ^ k)

end Sys2Proof
end

