-- ==== Sys2Proof/Syntax.lean ====
section
/-! DEFINITION. The commands of the part: one constructor per row of spec/opcode_table.json, in the table's order. -/

namespace Sys2Proof

/-- The commands. The table gives no operand fields: the operands are those the rule of each row names
(log entry 4). -/
inductive Instr where
  /-- R181: the RESET input is asserted (`true`) or released (`false`). -/
  | powerOnReset (asserted : Bool)
  /-- R84, R182: a write of `v` to CONTROL with SOFT_RESET at 1. -/
  | softReset (v : Word)
  /-- R67: a write of `v` to CONTROL that changes a PORT_ENABLE bit from 0 to 1. -/
  | portEnable (v : Word)
  /-- R68: a write of `v` to CONTROL that changes a PORT_ENABLE bit from 1 to 0. -/
  | portDisable (v : Word)
  /-- R70. -/
  | lineUp (p : Port)
  /-- R71. -/
  | lineDown (p : Port)
  /-- R44. -/
  | burstStart (p : Port)
  /-- R45: a data symbol with value `b`. -/
  | byte (p : Port) (b : Byte)
  /-- R46. -/
  | burstEnd (p : Port)
  /-- R46. -/
  | codeViolation (p : Port)
  /-- R62. -/
  | receiveTimeout (p : Port)
  /-- R31. -/
  | startItem (p : Port)
  /-- R34. -/
  | stopItem (p : Port)
  /-- R102. -/
  | readItem (p : Port)
  /-- R94. -/
  | writeItem (p : Port)
  /-- R4. -/
  | arbiterGrant
  /-- R2. -/
  | grantPerformed
  /-- R108. -/
  | responseStart (p : Port)
  /-- R109. -/
  | returnEntryTake (p : Port)
  /-- R112. -/
  | returnEnd (p : Port)
  /-- R114. -/
  | reportSent (p : Port)
  /-- R115. -/
  | ackSent (p : Port)
  /-- R116. -/
  | endSymbolSent (p : Port)
  /-- R13: a write of $0011 to CMD. -/
  | defineAperture
  /-- R15: a write of $0012 to CMD. -/
  | clearAperture
  /-- R22: a write of $0021 to CMD. -/
  | bind
  /-- R23: a write of $0022 to CMD. -/
  | unbind
  /-- R141: a write of $0031 to CMD, drain 0 staged. -/
  | retireAbort
  /-- R142: a write of $0031 to CMD, drain 1 staged. -/
  | retireDrain
  /-- R147. -/
  | drainTimerExpiry
  /-- R132: a write of $0041 to CMD. -/
  | suspendPort
  /-- R77: a write of $0042 to CMD. -/
  | resumePort
  /-- R78: a write of $0043 to CMD. -/
  | resetPort
  /-- R152: a write of $0051 to CMD. -/
  | hostOpen
  /-- R153: a write of $0052 to CMD. -/
  | hostClose
  /-- R128: a write to CMD of a value `v` that is no opcode. -/
  | badCommand (v : Word)
  /-- R126: a write of `v` to CMD while the unit is BUSY. -/
  | cmdCollision (v : Word)
  /-- R154. -/
  | hostDataWrite (v : Word)
  /-- R155: a read of HOST_DATA. In this row and in the other reads `released` tells that the host releases its strobe
  while WAIT is still asserted (R180); it means nothing to a read that is taken without WAIT. -/
  | hostDataRead (released : Bool := false)
  /-- R172: a write to FAULT_POP; the value is ignored. -/
  | faultPop (v : Word)
  /-- R176: a read of the error counter of `q`. -/
  | errorCounterRead (q : Source) (released : Bool := false)
  /-- R41. -/
  | ctxCursorLoRead (released : Bool := false)
  /-- R160. -/
  | hostCursorLoRead (released : Bool := false)
  /-- R177. -/
  | intStatusWrite (v : Word)
  /-- R19: a write to MARK_FLAGS lo (`hi = false`) or hi. -/
  | markFlagsWrite (hi : Bool) (v : Word)
  /-- R179. -/
  | alertWrite (v : Word)
  /-- R39. -/
  | ctxSelectWrite (v : Word)
  /-- R165: a write to CLASS_MAP lo (`hi = false`) or hi. -/
  | classMapWrite (hi : Bool) (v : Word)
  /-- R184. -/
  | returnLimitSelect (v : Word)
  /-- R183: a write of `v` to the register at byte offset `offset`. -/
  | registerWrite (offset : BitVec 8) (v : Word)
deriving DecidableEq, Repr

end Sys2Proof
end

