-- ==== Sys2Proof/Decode.lean ====
section
/-! DEFINITION. The decoder of command words. The part fetches no words: its commands are bus cycles, line events,
pins and internal events, and no row of spec/opcode_table.json gives bits. So no word spells a command. -/

namespace Sys2Proof

/-- The command that a word spells by the table's bits: none, for no row of the table gives bits. -/
def decodeTableWord (_nbits _w : Nat) : Option Instr := none

end Sys2Proof
end

