-- ==== Sys2Proof/Config.lean ====
section
/-! DEFINITION. The values the spec leaves open, as constants with no body: nothing can evaluate them, and a
theorem about the model holds for whatever they are. -/

namespace Sys2Proof

/-- R1: "At power-on reset every cell takes an arbitrary value", which stays until the cell is written. The
arbitrary value of the cell at an address after the given power-on reset (counted by State.powerOns); log entry 1.
DESIGN CHOICE of form, safe: a free value. -/
opaque Config.powerOnCell : Nat → Nat → Word

/-- R118: which cells' low bytes have left when an abort meets a RETURN is a matter of line timing. The number of
cells already on the line, before it is bounded by the cells read; applied to State.freeCount; log entry 6.
Safe: a free value. -/
opaque Config.cellsOnLine : Nat → Nat

end Sys2Proof
end

