-- ==== Sys2Proof/Machine/Types.lean ====
section
/-! DEFINITION. The records that State is made of, each in the words of the rule that names it. -/

namespace Sys2Proof.Machine

/-! ### Apertures, bindings and contexts (ch 1, ch 2) -/

/-- Walking order (R7). -/
inductive Order where
  | rows
  | columns
deriving DecidableEq, Repr

/-- What a walk does at its end (R7). -/
inductive Policy where
  | stop
  | loop
deriving DecidableEq, Repr

/-- A set of rights: READ, WRITE, both or none (R7). -/
structure Rights where
  read : Bool
  write : Bool
deriving DecidableEq, Repr

/-- Where an aperture lies, how it is walked and which line marks it (R7). -/
structure Geometry where
  firstColumn : BitVec 10
  lastColumn : BitVec 10
  firstRow : BitVec 8
  lastRow : BitVec 8
  order : Order
  policy : Policy
  mark : BitVec 11
deriving DecidableEq, Repr

/-- An aperture record (R7): `isDefined` is its state, DEFINED or FREE. -/
structure Aperture where
  isDefined : Bool
  geometry : Geometry
  rights : Rights
  generation : BitVec 8
deriving DecidableEq, Repr

/-- What a bound slot holds (R21). -/
structure Binding where
  aperture : ApIndex
  rights : Rights
deriving DecidableEq, Repr

/-- A context's copy of an aperture record, with the entry it was taken from (R25). -/
structure Copy where
  aperture : ApIndex
  geometry : Geometry
  granted : Rights
  generation : BitVec 8
deriving DecidableEq, Repr

/-- The states of a head context (R25). -/
inductive HeadState where
  | empty
  | opened
  | ended
  | retiring
  | retired
deriving DecidableEq, Repr

/-- A head context (R25); its in-flight count is computed (R26), see `State.inFlight`. -/
structure HeadContext where
  state : HeadState
  copy : Option Copy
  endIndicator : Bool
  cursor : Nat
  passes : BitVec 8
deriving DecidableEq, Repr

/-- The states of the host context (R27). -/
inductive HostState where
  | closed
  | opened
  | ended
  | retired
deriving DecidableEq, Repr

/-- The host context (R27). -/
structure HostContext where
  state : HostState
  copy : Option Copy
  cursor : Nat
  passes : BitVec 8
deriving DecidableEq, Repr

/-- One of the 17 contexts (ch 2). -/
inductive ContextId where
  | head (p : Port) (t : Stream)
  | host
deriving DecidableEq, Repr

/-! ### The store arbiter (ch 1) -/

/-- The access of a request (R3). -/
inductive Access where
  | read
  | write (value : Word)
deriving DecidableEq, Repr

/-- A request to the store arbiter (R3), with the identity it carries (R189). -/
structure Request where
  access : Access
  row : BitVec 8
  column : BitVec 10
  /-- the stream whose context it was posted for; none for HA -/
  stream : Option Stream
  /-- the aperture index of the copy it was posted under (R189) -/
  aperture : ApIndex
  /-- the generation of that copy (R189) -/
  generation : BitVec 8
  /-- whether its cell is that copy's marking cell (R189) -/
  marking : Bool
  /-- whether its requester still wants the value (R3); for a host read, whether its strobe is held to the end of WAIT
  (R180) -/
  wanted : Bool
  /-- whether the walk it was posted for still stands (R118, R189) -/
  standing : Bool
deriving DecidableEq, Repr

/-- The store arbiter (R3, R4). A request stays in its place until its grant has been performed. -/
structure Arbiter where
  pointer : Source
  granting : Option Source
  portRequests : Bank 4 (Option Request)
  hostRequest : Option Request
deriving DecidableEq, Repr

/-! ### Ports (ch 3 to ch 6) -/

/-- Link states (R66). -/
inductive LinkState where
  | off
  | waitSync
  | listening
  | turnWait
  | responding
deriving DecidableEq, Repr

/-- Port modes (R66). -/
inductive Mode where
  | running
  | suspended
deriving DecidableEq, Repr

/-- Where the decoder stands in an open burst, with what it holds there (R45). `packet` is the corrected header of
the packet in hand. -/
inductive Position where
  /-- the header bytes collected so far, first byte first -/
  | header (collected : List Byte)
  /-- payload bytes taken, the byte taken last, and the running checksum -/
  | take (packet : HeaderBits) (taken : Nat) (lastByte : Byte) (sum : Word)
  /-- the low byte of the received checksum once it has come, and the computed checksum -/
  | check (packet : HeaderBits) (low : Option Byte) (sum : Word)
  /-- the bytes still to be discarded -/
  | skip (packet : HeaderBits) (owed : Nat)
  | discard
deriving DecidableEq, Repr

/-- An open burst (ch 3, section 3.2). -/
structure Burst where
  position : Position
  turnSeen : Bool
  broken : Bool
deriving DecidableEq, Repr

/-- Kinds of work item (R86). -/
inductive ItemKind where
  | start
  | stop
  | read
  | write
deriving DecidableEq, Repr

/-- States of a work item (R86). -/
inductive ItemState where
  | receiving (cellsReceived : Nat)
  | ready
  /-- `leaving`: it was removed by a port event or an abort and only finishes its cell in hand (R69);
  `counted`: the retire engine has already counted it (R145, R190) -/
  | committing (cellsCommitted : Nat) (cellInHand : Bool) (leaving : Bool) (counted : Bool)
deriving DecidableEq, Repr

/-- A work item (R86). -/
structure WorkItem where
  kind : ItemKind
  stream : Stream
  parameter : Word
  capture : HeaderBits
  state : ItemState
  slot : Option (Fin 2)
deriving DecidableEq, Repr

/-- An entry of the return queue (R103). -/
structure ReturnEntry where
  stream : Stream
  count : Nat
  capture : HeaderBits
deriving DecidableEq, Repr

/-- Phases of the response builder (R108). -/
inductive Phase where
  | idle
  | returns
  | report
  | closing
deriving DecidableEq, Repr

/-- The RETURN being sent (R108, R112): `length` is n, `cells` the cells placed in the packet so far, `header` its own
header as sent; `zeroFilled` once retirement has cut it short (R118). -/
structure CurrentReturn where
  stream : Stream
  length : Nat
  header : HeaderBits
  cells : List Word
  zeroFilled : Bool
deriving DecidableEq, Repr

/-- The response builder (R108). -/
structure Builder where
  phase : Phase
  current : Option CurrentReturn
  packetSent : Bool
  snapshot : Option (BitVec 16)
deriving DecidableEq, Repr

/-- A packet the part has sent whole (R65): the four header bytes, the check byte, the cells, and a long packet's
checksum. -/
structure SentPacket where
  header : HeaderBits
  check : Byte
  cells : List Word
  checksum : Option Word
deriving DecidableEq, Repr

/-- How far a port's latest response burst has come. -/
inductive LineStatus where
  /-- no response yet -/
  | silent
  /-- the start symbol has been sent -/
  | sending
  /-- the end symbol has been sent -/
  | complete
  /-- it ended without its end symbol (R65) -/
  | cut
deriving DecidableEq, Repr

/-- What a port has sent on its link in its latest response burst (R65). The model's own record of the line: DESIGN
CHOICE (log entries 15, 22). -/
structure LineOut where
  status : LineStatus
  packets : List SentPacket
deriving DecidableEq, Repr

/-- A head port (R66, R83). -/
structure PortState where
  enabled : Bool
  link : LinkState
  mode : Mode
  burst : Option Burst
  /-- the receive timer: stopped, or the microseconds remaining (R61) -/
  rxTimer : Option Nat
  rxLimit : Word
  /-- the sequence expectation: FREE is `none` (R57) -/
  expectation : Option (BitVec 3)
  returnLimit : Nat
  queue : List WorkItem
  slots : Bank 2 (List Word)
  returns : List ReturnEntry
  builder : Builder
  reportFlags : BitVec 16
  ackCount : Nat
  responseCounter : BitVec 3
  line : LineOut
deriving DecidableEq, Repr

/-! ### The command unit and the retire engine (ch 7, ch 8) -/

/-- Result codes (ch 7, section 7.4; numbered in R186). -/
inductive ResultCode where
  | none
  | done
  | doneForced
  | badCommand
  | badIndex
  | badGeometry
  | badMark
  | badRights
  | noAperture
  | inUse
  | alreadyBound
  | notBound
  | contextLive
  | badScope
  | notSuspended
deriving DecidableEq, Repr

/-- The command unit (R122). -/
structure CommandUnit where
  busy : Bool
  collision : Bool
  lastOpcode : Word
  args : Bank 4 Word
  staged : Bank 4 Word
  result : ResultCode
  details : Bank 3 (BitVec 8)
deriving DecidableEq, Repr

/-- Phases of the retire engine (R135). -/
inductive RetirePhase where
  | idle
  | draining
deriving DecidableEq, Repr

/-- The retire engine (R135) and DRAIN_LIMIT (R136). The counts are those of the command in progress; with none in
progress, those of the last that affected a context. DESIGN CHOICE (log entry 27). -/
structure RetireEngine where
  phase : RetirePhase
  affected : List ContextId
  retired : Nat
  drained : Nat
  aborted : Nat
  /-- the drain timer: stopped, or the microseconds remaining (R136) -/
  timer : Option Nat
  drainLimit : BitVec 12
deriving DecidableEq, Repr

/-! ### Faults and interrupts (ch 10) -/

/-- The sixteen fault kinds (ch 10, section 10.1). -/
inductive FaultKind where
  | hdrCorrected
  | hdrUncorrectable
  | checksum
  | format
  | sequence
  | burstBroken
  | rxTimeout
  | notBound
  | rights
  | apertureEnd
  | overrun
  | truncated
  | retired
  | suspended
  | badParameter
  | resumeLost
deriving DecidableEq, Repr

/-- The handling level of a kind (R165, R166). -/
inductive FaultClass where
  | class0
  | class1
  | class2
deriving DecidableEq, Repr

/-- The aperture index and offset of a claim (R163). -/
structure WalkPoint where
  aperture : ApIndex
  offset : Nat
deriving DecidableEq, Repr

/-- The packet type and header capture of a claim (R163). -/
structure PacketRef where
  type : Byte
  capture : HeaderBits
deriving DecidableEq, Repr

/-- A claim handed to the fault unit (R163). -/
structure Claim where
  kind : FaultKind
  source : Source
  stream : Option Stream
  walk : Option WalkPoint
  packet : Option PacketRef
deriving DecidableEq, Repr

/-- A fault record (R168): the fields of the claim that inserted it, and the repeat count. -/
structure FaultRecord where
  claim : Claim
  repeats : Nat
deriving DecidableEq, Repr

/-- An error counter (R175). -/
structure ErrorCounter where
  count : Nat
  overflow : Bool
deriving DecidableEq, Repr

/-- The fault unit (R165, R169, R175, R179). -/
structure FaultUnit where
  classMap : Bank 16 FaultClass
  queue : List FaultRecord
  counters : Bank 5 ErrorCounter
  alert : Bool
deriving DecidableEq, Repr

/-- The interrupt unit: its latches and INT_ENABLE (R177, R178). -/
structure InterruptUnit where
  overflow : Bool
  cmdDone : Bool
  line : Bank 4 Bool
  suspend : Bank 4 Bool
  counter : Bool
  enable : BitVec 13
deriving DecidableEq, Repr

/-! ### The register window and the host bus (ch 11) -/

/-- The registers of the map (R183), and the offsets not in it. `hi` tells the upper register of a pair. -/
inductive Register where
  | id
  | control
  | portState
  | cmd
  | arg (i : Fin 4)
  | cmdStatus
  | result
  | detail (i : Fin 3)
  | drainLimit
  | rxLimit (p : Port)
  | intStatus
  | intEnable
  | alert
  | classMap (hi : Bool)
  | markFlags (hi : Bool)
  | faultInfo
  | faultRepeat
  | faultAperture
  | faultOffset (hi : Bool)
  | faultCapture (hi : Bool)
  | faultCount
  | errorCounter (q : Source)
  | ctxSelect
  | ctxState
  | ctxCopy
  | ctxCursor (hi : Bool)
  | ctxGranted
  | ctxBinding
  | hostData
  | hostState
  | hostCursor (hi : Bool)
  | apertureSelect
  | apStatus
  | apFirstCol
  | apLastCol
  | apRows
  | apMark
  | reportPending (p : Port)
  | returnLimit
  | unmapped
deriving DecidableEq, Repr

/-- A host bus cycle (R180). `released` tells of a read that the host releases its strobe while WAIT is still
asserted. -/
inductive BusCycle where
  | read (r : Register) (released : Bool)
  | write (r : Register) (v : Word)
deriving DecidableEq, Repr

/-- The selections and holding registers of the window (R11, R39, R41, R160, R184). -/
structure Window where
  ctxSelect : Fin 17
  apertureSelect : ApIndex
  returnLimitSelect : Port
  ctxHold : BitVec 3
  hostHold : BitVec 3
deriving DecidableEq, Repr

/-- The host bus: the cycles held with WAIT behind an outstanding HOST_DATA request, in the order issued (R180), and
the value the last read cycle drove on the data lines, `none` before the first (log entry 8). -/
structure HostBus where
  held : List BusCycle
  readData : Option Word
deriving DecidableEq, Repr

end Sys2Proof.Machine
end

