-- ==== Sys2Proof/Machine/Operands.lean ====
section
/-! DEFINITION. The operand forms of the part: aperture geometry and offsets (R8, R9), headers and their check code
(R48 to R52, R188), the payload checksum (R55), the fields of the staged arguments (R186), the numbers of states and
codes (R185 to R187) and the register map's offsets (R183). -/

namespace Sys2Proof.Machine

/-! ### Rights -/

/-- The rights in both sets (R30). -/
def Rights.inter (a b : Rights) : Rights := ⟨a.read && b.read, a.write && b.write⟩

/-- Whether no right is named. -/
def Rights.isEmpty (a : Rights) : Bool := !a.read && !a.write

/-- Whether every right of `a` is among those of `b` (R22). -/
def Rights.within (a b : Rights) : Bool := (!a.read || b.read) && (!a.write || b.write)

/-- A rights pair as a number: READ lower, WRITE upper (R185). -/
def Rights.number (a : Rights) : Nat := (if a.read then 1 else 0) + (if a.write then 2 else 0)

/-! ### Geometry (R8, R9, R17) -/

/-- R8: last column − first column + 1. -/
def Geometry.width (g : Geometry) : Nat := g.lastColumn.toNat - g.firstColumn.toNat + 1

/-- R8: ((last row − first row) mod 256) + 1. -/
def Geometry.height (g : Geometry) : Nat := (g.lastRow - g.firstRow).toNat + 1

/-- R8. -/
def Geometry.size (g : Geometry) : Nat := g.width * g.height

/-- R8: the width in ROWS order, the height in COLUMNS order. -/
def Geometry.lineLength (g : Geometry) : Nat :=
  match g.order with
  | .rows => g.width
  | .columns => g.height

/-- R8: the height in ROWS order, the width in COLUMNS order. -/
def Geometry.lineCount (g : Geometry) : Nat :=
  match g.order with
  | .rows => g.height
  | .columns => g.width

/-- R9: the row of the cell at offset `k`. -/
def Geometry.rowAt (g : Geometry) (k : Nat) : BitVec 8 :=
  match g.order with
  | .rows => g.firstRow + BitVec.ofNat 8 (k / g.width)
  | .columns => g.firstRow + BitVec.ofNat 8 (k % g.height)

/-- R9: the column of the cell at offset `k`. -/
def Geometry.columnAt (g : Geometry) (k : Nat) : BitVec 10 :=
  match g.order with
  | .rows => g.firstColumn + BitVec.ofNat 10 (k % g.width)
  | .columns => g.firstColumn + BitVec.ofNat 10 (k / g.height)

/-- R17: whether offset `k` is the marking cell, offset mark × line length − 1 of a mark that is not 0. -/
def Geometry.isMarking (g : Geometry) (k : Nat) : Bool :=
  g.mark.toNat != 0 && k + 1 == g.mark.toNat * g.lineLength

/-! ### Headers (R48, R51, R52, R188) -/

/-- Byte 0 of a header (R48). -/
def headerType (d : HeaderBits) : Byte := d.extractLsb' 0 8

/-- Byte 1 of a header (R48). -/
def headerTag (d : HeaderBits) : Byte := d.extractLsb' 8 8

/-- Tag bits 1:0 (R48). -/
def headerStream (d : HeaderBits) : Stream := (d.extractLsb' 8 2).toFin

/-- Tag bits 4:2 (R48). -/
def headerSequence (d : HeaderBits) : BitVec 3 := d.extractLsb' 10 3

/-- Tag bits 7:5, which must be zero (R48). -/
def headerReserved (d : HeaderBits) : BitVec 3 := d.extractLsb' 13 3

/-- Bytes 2 and 3 of a header, low byte first (R48). -/
def headerParameter (d : HeaderBits) : Word := d.extractLsb' 16 16

/-- Bit 7 of the type is set for a long packet (R48). -/
def headerIsLong (d : HeaderBits) : Bool := (headerType d).getLsbD 7

/-- The data bits of four received header bytes (R48). -/
def headerOfBytes (b0 b1 b2 b3 : Byte) : HeaderBits := b3 ++ b2 ++ b1 ++ b0

/-- The header of a packet the part sends: type, stream, sequence, parameter, tag bits 7:5 zero (R65). -/
def headerOf (type : Byte) (stream : Stream) (sequence : BitVec 3) (parameter : Word) : HeaderBits :=
  parameter ++ (0#3 ++ sequence ++ BitVec.ofNat 2 stream.val) ++ type

/-- R51: the columns of the data bits, data bit 0 first. -/
def checkColumns : List (BitVec 7) :=
  [0x70, 0x68, 0x64, 0x62, 0x61, 0x58, 0x54, 0x52,
   0x51, 0x4C, 0x4A, 0x49, 0x46, 0x45, 0x43, 0x38,
   0x34, 0x32, 0x31, 0x2C, 0x2A, 0x29, 0x26, 0x25,
   0x23, 0x1C, 0x1A, 0x19, 0x16, 0x15, 0x13, 0x0E]

/-- The exclusive OR of the given columns at the positions, from `k` up, whose data bit is 1. -/
def checkBitsFrom (columns : List (BitVec 7)) (k : Nat) (d : HeaderBits) : BitVec 7 :=
  match columns with
  | [] => 0
  | c :: rest => (if d.getLsbD k then c else 0) ^^^ checkBitsFrom rest (k + 1) d

/-- R51: the seven check bits are the exclusive OR of the columns of all data bits that are 1. -/
def checkBits (d : HeaderBits) : BitVec 7 := checkBitsFrom checkColumns 0 d

/-- R51: the syndrome of received data bits and a received check byte, whose bit 7 is ignored (R48). -/
def syndrome (d : HeaderBits) (check : Byte) : BitVec 7 := check.truncate 7 ^^^ checkBits d

/-- The fate of a received header (R52). -/
inductive HeaderVerdict where
  | clean (d : HeaderBits)
  | corrected (d : HeaderBits)
  | uncorrectable
deriving DecidableEq, Repr

/-- R52. -/
def judgeHeader (d : HeaderBits) (check : Byte) : HeaderVerdict :=
  if syndrome d check = 0 then .clean d
  else
    match checkColumns.findIdx? (fun c => c == syndrome d check) with
    | some i => .corrected (d ^^^ BitVec.twoPow 32 i)
    | none =>
      if [0x01, 0x02, 0x04, 0x08, 0x10, 0x20, 0x40].contains (syndrome d check) then .corrected d
      else .uncorrectable

/-- The packet types a head sends (R50). -/
inductive PacketType where
  | nop
  | start
  | stop
  | read
  | limit
  | turn
  | write
  | pad
deriving DecidableEq, Repr

/-- R188: the type code of WRITE. -/
def writeCode : Byte := 0xA1

/-- R188: the codes of the types a head sends; a response type or any other value is unknown (R58). -/
def packetType (code : Byte) : Option PacketType :=
  if code = 0x00 then some .nop
  else if code = 0x21 then some .start
  else if code = 0x22 then some .stop
  else if code = 0x23 then some .read
  else if code = 0x24 then some .limit
  else if code = 0x2F then some .turn
  else if code = writeCode then some .write
  else if code = 0xA2 then some .pad
  else none

/-- R188: the codes of the types the part sends. -/
def ackCode : Byte := 0x31

/-- R188. -/
def reportCode : Byte := 0x32

/-- R188. -/
def returnCode : Byte := 0xB1

/-- The packet reference of a claim: the type is byte 0 of the capture (R163). -/
def packetRef (d : HeaderBits) : PacketRef := ⟨headerType d, d⟩

/-! ### Payload checksum (R55) -/

/-- R55: one payload bit: feedback, shift down, exclusive OR with $A001. -/
def sumBit (r : Word) (b : Bool) : Word :=
  if (r.getLsbD 0).xor b then (r >>> 1) ^^^ 0xA001 else r >>> 1

/-- R55: one payload byte, bit 0 first. -/
def sumByte (r : Word) (b : Byte) : Word :=
  (List.range 8).foldl (fun r i => sumBit r (b.getLsbD i)) r

/-- R55: the preset of the checksum register. -/
def sumPreset : Word := 0xFFFF

/-- The low byte of a cell, sent first (ch 0, Link byte order). -/
def lowByte (v : Word) : Byte := v.extractLsb' 0 8

/-- The high byte of a cell. -/
def highByte (v : Word) : Byte := v.extractLsb' 8 8

/-- A cell formed from its two bytes (R45). -/
def cellOfBytes (low high : Byte) : Word := high ++ low

/-- R55, R65: the checksum of a payload of cells, each low byte first. -/
def sumCells (cells : List Word) : Word :=
  cells.foldl (fun r v => sumByte (sumByte r (lowByte v)) (highByte v)) sumPreset

/-! ### Fields of the staged arguments (R186) -/

/-- A port number in range. -/
def portOf (n : Nat) : Option Port := if h : n < 4 then some ⟨n, h⟩ else none

/-- An aperture index in range. -/
def indexOf (n : Nat) : Option ApIndex := if h : n < 32 then some ⟨n, h⟩ else none

/-- p: ARG0 bits 2:0. -/
def argPort (a : Bank 4 Word) : Nat := ((a.get 0).extractLsb' 0 3).toNat

/-- s: ARG0 bits 6:4. -/
def argStream (a : Bank 4 Word) : Nat := ((a.get 0).extractLsb' 4 3).toNat

/-- n of the commands other than DEFINE_APERTURE: ARG0 bits 13:8. -/
def argIndex (a : Bank 4 Word) : Nat := ((a.get 0).extractLsb' 8 6).toNat

/-- Rights of BIND: ARG1 bit 0 READ, bit 1 WRITE. -/
def argRights (a : Bank 4 Word) : Rights := ⟨(a.get 1).getLsbD 0, (a.get 1).getLsbD 1⟩

/-- Scope of RETIRE: ARG1 bits 2:0. -/
def argScope (a : Bank 4 Word) : Nat := ((a.get 1).extractLsb' 0 3).toNat

/-- Drain of RETIRE: ARG1 bit 8. -/
def argDrain (a : Bank 4 Word) : Bool := (a.get 1).getLsbD 8

/-- n of DEFINE_APERTURE: ARG1 bit 15 and ARG2 bits 15:11. -/
def defineIndex (a : Bank 4 Word) : Nat :=
  (if (a.get 1).getLsbD 15 then 32 else 0) + ((a.get 2).extractLsb' 11 5).toNat

/-- The first column of DEFINE_APERTURE, 0..2047. -/
def defineFirstColumn (a : Bank 4 Word) : Nat := ((a.get 1).extractLsb' 0 11).toNat

/-- The last column of DEFINE_APERTURE, 0..2047. -/
def defineLastColumn (a : Bank 4 Word) : Nat := ((a.get 2).extractLsb' 0 11).toNat

/-- The rights of DEFINE_APERTURE: ARG1 bit 13 READ, bit 14 WRITE. -/
def defineRights (a : Bank 4 Word) : Rights := ⟨(a.get 1).getLsbD 13, (a.get 1).getLsbD 14⟩

/-- The staged geometry of DEFINE_APERTURE. Columns above 1023 lose their top bit here, but are refused first (R12). -/
def defineGeometry (a : Bank 4 Word) : Geometry where
  firstColumn := (a.get 1).extractLsb' 0 10
  lastColumn := (a.get 2).extractLsb' 0 10
  firstRow := (a.get 0).extractLsb' 0 8
  lastRow := (a.get 0).extractLsb' 8 8
  order := if (a.get 1).getLsbD 11 then .columns else .rows
  policy := if (a.get 1).getLsbD 12 then .loop else .stop
  mark := (a.get 3).extractLsb' 0 11

/-- The ten commands (R186). -/
inductive Command where
  | defineAperture
  | clearAperture
  | bind
  | unbind
  | retire
  | suspendPort
  | resumePort
  | resetPort
  | hostOpen
  | hostClose
deriving DecidableEq, Repr

/-- R186: the command an opcode names. -/
def commandOf (v : Word) : Option Command :=
  if v = 0x0011 then some .defineAperture
  else if v = 0x0012 then some .clearAperture
  else if v = 0x0021 then some .bind
  else if v = 0x0022 then some .unbind
  else if v = 0x0031 then some .retire
  else if v = 0x0041 then some .suspendPort
  else if v = 0x0042 then some .resumePort
  else if v = 0x0043 then some .resetPort
  else if v = 0x0051 then some .hostOpen
  else if v = 0x0052 then some .hostClose
  else none

/-! ### Numbers of states and codes (R185, R186, section 10.1) -/

/-- R186. -/
def ResultCode.number : ResultCode → Nat
  | .none => 0
  | .done => 1
  | .doneForced => 2
  | .badCommand => 3
  | .badIndex => 4
  | .badGeometry => 5
  | .badMark => 6
  | .badRights => 7
  | .noAperture => 8
  | .inUse => 9
  | .alreadyBound => 10
  | .notBound => 11
  | .contextLive => 12
  | .badScope => 13
  | .notSuspended => 14

/-- R185. -/
def LinkState.number : LinkState → Nat
  | .off => 0
  | .waitSync => 1
  | .listening => 2
  | .turnWait => 3
  | .responding => 4

/-- R185. -/
def HeadState.number : HeadState → Nat
  | .empty => 0
  | .opened => 1
  | .ended => 2
  | .retiring => 3
  | .retired => 4

/-- R185. -/
def HostState.number : HostState → Nat
  | .closed => 0
  | .opened => 1
  | .ended => 2
  | .retired => 4

/-- Section 10.1: the number of a kind, which is also its report flag. -/
def FaultKind.number : FaultKind → Fin 16
  | .hdrCorrected => 0
  | .hdrUncorrectable => 1
  | .checksum => 2
  | .format => 3
  | .sequence => 4
  | .burstBroken => 5
  | .rxTimeout => 6
  | .notBound => 7
  | .rights => 8
  | .apertureEnd => 9
  | .overrun => 10
  | .truncated => 11
  | .retired => 12
  | .suspended => 13
  | .badParameter => 14
  | .resumeLost => 15

/-- R165. -/
def FaultClass.number : FaultClass → Nat
  | .class0 => 0
  | .class1 => 1
  | .class2 => 2

/-- R165: a two-position field written as 3 is stored as 2. -/
def classOf (field : BitVec 2) : FaultClass :=
  if field = 0 then .class0 else if field = 1 then .class1 else .class2

/-! ### The register map (R183) -/

/-- R183: the register at a byte offset. There is no A0, so the lowest bit of the offset is not on the bus (R180). -/
def registerAt (offset : BitVec 8) : Register :=
  match offset.toNat / 2 with
  | 0x00 => .id
  | 0x01 => .control
  | 0x02 => .portState
  | 0x03 => .cmd
  | 0x04 => .arg 0
  | 0x05 => .arg 1
  | 0x06 => .arg 2
  | 0x07 => .arg 3
  | 0x08 => .cmdStatus
  | 0x09 => .result
  | 0x0A => .detail 0
  | 0x0B => .detail 1
  | 0x0C => .detail 2
  | 0x0D => .drainLimit
  | 0x0E => .rxLimit 0
  | 0x0F => .rxLimit 1
  | 0x10 => .rxLimit 2
  | 0x11 => .rxLimit 3
  | 0x12 => .intStatus
  | 0x13 => .intEnable
  | 0x14 => .alert
  | 0x15 => .classMap false
  | 0x16 => .classMap true
  | 0x17 => .markFlags false
  | 0x18 => .markFlags true
  | 0x19 => .faultInfo
  | 0x1A => .faultRepeat
  | 0x1B => .faultAperture
  | 0x1C => .faultOffset false
  | 0x1D => .faultOffset true
  | 0x1E => .faultCapture false
  | 0x1F => .faultCapture true
  | 0x20 => .faultCount
  | 0x21 => .errorCounter (.port 0)
  | 0x22 => .errorCounter (.port 1)
  | 0x23 => .errorCounter (.port 2)
  | 0x24 => .errorCounter (.port 3)
  | 0x25 => .errorCounter .host
  | 0x26 => .ctxSelect
  | 0x27 => .ctxState
  | 0x28 => .ctxCopy
  | 0x29 => .ctxCursor false
  | 0x2A => .ctxCursor true
  | 0x2B => .ctxGranted
  | 0x2C => .ctxBinding
  | 0x2D => .hostData
  | 0x2E => .hostState
  | 0x2F => .hostCursor false
  | 0x30 => .hostCursor true
  | 0x31 => .apertureSelect
  | 0x32 => .apStatus
  | 0x33 => .apFirstCol
  | 0x34 => .apLastCol
  | 0x35 => .apRows
  | 0x36 => .apMark
  | 0x38 => .reportPending 0
  | 0x39 => .reportPending 1
  | 0x3A => .reportPending 2
  | 0x3B => .reportPending 3
  | 0x3C => .returnLimit
  | _ => .unmapped

end Sys2Proof.Machine
end

