-- ==== Sys2Proof/Machine/State.lean ====
section
/-! DEFINITION. The whole state of the part as plain data, its state after power-on reset, and the stops. -/

namespace Sys2Proof.Machine

/-- The reasons a step could stop with a fault. The spec stops the part nowhere: what it calls a fault is a claim to
the fault unit, after which the part goes on (R163, R164). So there is no constructor. -/
inductive Fault where
deriving DecidableEq, Repr

/-- The reasons a step could refuse a command. -/
inductive Refusal where
  /-- raised by `exec` alone, for a command that has no meaning yet; safe. No arm raises it. -/
  | notModelled (mnemonic : String)
deriving DecidableEq, Repr

/-- The state of the part (INVENTORY.md, State). -/
structure State where
  /-- whether the RESET input is asserted (R181) -/
  inReset : Bool
  /-- the model's own count of power-on resets, which selects the arbitrary cell values of R1 (log entry 1) -/
  powerOns : Nat
  /-- the model's own count of free values drawn (log entry 6) -/
  freeCount : Nat
  /-- the band store: the listed cells, address = row × 1024 + column (R1; log entry 20) -/
  store : List (Nat × Word)
  arbiter : Arbiter
  apertures : Bank 32 Aperture
  /-- the 32 mark flags (R19) -/
  marks : BitVec 32
  bindings : Bank 4 (Bank 4 (Option Binding))
  contexts : Bank 4 (Bank 4 HeadContext)
  hostContext : HostContext
  ports : Bank 4 PortState
  command : CommandUnit
  retire : RetireEngine
  faults : FaultUnit
  interrupts : InterruptUnit
  window : Window
  bus : HostBus
  /-- the model's own queue of the commands that are waiting, first in, first out (log entry 23) -/
  pending : List Instr
deriving DecidableEq, Repr

/-! ### Values after power-on reset -/

/-- No rights. -/
def Rights.nothing : Rights := ⟨false, false⟩

/-- R7: every field of a record at its zero value. -/
def Aperture.reset : Aperture where
  isDefined := false
  geometry := ⟨0, 0, 0, 0, .rows, .stop, 0⟩
  rights := Rights.nothing
  generation := 0

/-- R28: the EMPTY condition of a head context. -/
def HeadContext.reset : HeadContext := ⟨.empty, none, false, 0, 0⟩

/-- R28: the host context, CLOSED with no copy. -/
def HostContext.reset : HostContext := ⟨.closed, none, 0, 0⟩

/-- R6: no requests, and the pointer names H. -/
def Arbiter.reset : Arbiter := ⟨.host, none, Bank.fill 4 none, none⟩

/-- R108: the builder when its port is not RESPONDING. -/
def Builder.idle : Builder := ⟨.idle, none, false, none⟩

/-- R83. -/
def PortState.reset : PortState where
  enabled := false
  link := .off
  mode := .running
  burst := none
  rxTimer := none
  rxLimit := 2000
  expectation := none
  returnLimit := 32
  queue := []
  slots := Bank.fill 2 []
  returns := []
  builder := Builder.idle
  reportFlags := 0
  ackCount := 0
  responseCounter := 0
  line := ⟨.silent, []⟩

/-- R122. -/
def CommandUnit.reset : CommandUnit :=
  ⟨false, false, 0, Bank.fill 4 0, Bank.fill 4 0, .none, Bank.fill 3 0⟩

/-- R135, and R136 for DRAIN_LIMIT. -/
def RetireEngine.reset : RetireEngine := ⟨.idle, [], 0, 0, 0, none, 625⟩

/-- The default classes of section 10.1 (R165): kinds 1, 2, 3, 5 to 10 and 14 in class 1, the others in class 0. -/
def defaultClasses : Bank 16 FaultClass :=
  Bank.tabulate fun k => if k.val ∈ [1, 2, 3, 5, 6, 7, 8, 9, 10, 14] then .class1 else .class0

/-- R165, R174, R175, R179. -/
def FaultUnit.reset : FaultUnit := ⟨defaultClasses, [], Bank.fill 5 ⟨0, false⟩, false⟩

/-- R177, R178. -/
def InterruptUnit.reset : InterruptUnit := ⟨false, false, Bank.fill 4 false, Bank.fill 4 false, false, 0⟩

/-- R11, R39, R41, R160, R184. -/
def Window.reset : Window := ⟨0, 0, 0, 0, 0⟩

/-- The part right after the release of RESET (R181): every piece of state at its power-on value, nothing waiting. -/
def State.reset : State where
  inReset := false
  powerOns := 0
  freeCount := 0
  store := []
  arbiter := Arbiter.reset
  apertures := Bank.fill 32 Aperture.reset
  marks := 0
  bindings := Bank.fill 4 (Bank.fill 4 none)
  contexts := Bank.fill 4 (Bank.fill 4 HeadContext.reset)
  hostContext := HostContext.reset
  ports := Bank.fill 4 PortState.reset
  command := CommandUnit.reset
  retire := RetireEngine.reset
  faults := FaultUnit.reset
  interrupts := InterruptUnit.reset
  window := Window.reset
  bus := ⟨[], none⟩
  pending := []

end Sys2Proof.Machine
end

