-- ==== Sys2Proof/Machine/Flags.lean ====
section
/-! DEFINITION. Every flag of the part: report flags (R79), mark flags (R18, R19), staleness (R38), the class map's
fields (R165), the interrupt sources and the INT, ALERT and WAIT outputs (R177 to R179, R157). -/

namespace Sys2Proof.Machine

/-- R79: the 16 report flags with flag `k` set. -/
def withReportFlag (flags : BitVec 16) (k : FaultKind) : BitVec 16 := flags ||| BitVec.twoPow 16 k.number.val

/-- R18: the mark flags with flag `n` set. -/
def withMark (marks : BitVec 32) (n : ApIndex) : BitVec 32 := marks ||| BitVec.twoPow 32 n.val

/-- R13, R19: the mark flags with flag `n` clear. -/
def withoutMark (marks : BitVec 32) (n : ApIndex) : BitVec 32 := marks &&& ~~~ BitVec.twoPow 32 n.val

/-- R19, R20: the mark flags after a write-1 of `v` to MARK_FLAGS lo or hi. -/
def clearMarks (marks : BitVec 32) (hi : Bool) (v : Word) : BitVec 32 :=
  if hi then marks &&& ~~~ (v ++ 0#16) else marks &&& ~~~ (0#16 ++ v)

/-- R38: whether a copy is stale: its entry is FREE or has another generation. -/
def isStale (apertures : Bank 32 Aperture) (copy : Option Copy) : Bool :=
  match copy with
  | none => false
  | some k => !((apertures.get k.aperture).isDefined && (apertures.get k.aperture).generation == k.generation)

/-- R165: the class of a kind. -/
def classIn (map : Bank 16 FaultClass) (k : FaultKind) : FaultClass := map.get k.number

/-- R165: the class map after a write of `v` to CLASS_MAP lo (kinds 0..7) or hi (kinds 8..15). -/
def writeClasses (map : Bank 16 FaultClass) (hi : Bool) (v : Word) : Bank 16 FaultClass :=
  Bank.tabulate fun k =>
    if decide (8 ≤ k.val) = hi then classOf (v.extractLsb' (2 * (k.val % 8)) 2) else map.get k

/-- R165: CLASS_MAP lo or hi as read. -/
def readClasses (map : Bank 16 FaultClass) (hi : Bool) : Word :=
  (List.finRange 16).foldl (fun v k =>
    if decide (8 ≤ k.val) = hi then v ||| Word.place (2 * (k.val % 8)) (map.get k).number else v) 0

/-- R177: FAULT is active while the fault queue holds a record. -/
def State.faultSource (s : State) : Bool := !s.faults.queue.isEmpty

/-- R20, R177: MARK is active while a mark flag is set. -/
def State.markSource (s : State) : Bool := s.marks != 0

/-- R177, R185: the thirteen sources in the places of INT_STATUS. -/
def State.intSources (s : State) : Word :=
  Word.bit 0 s.faultSource ||| Word.bit 1 s.interrupts.overflow ||| Word.bit 2 s.interrupts.cmdDone |||
  Word.bit 3 s.markSource |||
  Word.bit 4 (s.interrupts.line.get 0) ||| Word.bit 5 (s.interrupts.line.get 1) |||
  Word.bit 6 (s.interrupts.line.get 2) ||| Word.bit 7 (s.interrupts.line.get 3) |||
  Word.bit 8 (s.interrupts.suspend.get 0) ||| Word.bit 9 (s.interrupts.suspend.get 1) |||
  Word.bit 10 (s.interrupts.suspend.get 2) ||| Word.bit 11 (s.interrupts.suspend.get 3) |||
  Word.bit 12 s.interrupts.counter

/-- R178, R181: the INT output. While RESET is asserted it is deasserted. -/
def State.int (s : State) : Bool :=
  !s.inReset && (s.intSources &&& s.interrupts.enable.zeroExtend 16) != 0

/-- R179, R181: the ALERT output. -/
def State.alertPin (s : State) : Bool := !s.inReset && s.faults.alert

/-- R157, R180, R181: the WAIT output, asserted while a HOST_DATA request awaits its grant. -/
def State.wait (s : State) : Bool := !s.inReset && s.arbiter.hostRequest.isSome

/-- R177: the latches after a write-1 of `v` to INT_STATUS. The FAULT and MARK positions are ignored. -/
def clearLatches (i : InterruptUnit) (v : Word) : InterruptUnit :=
  { i with
    overflow := i.overflow && !v.getLsbD 1
    cmdDone := i.cmdDone && !v.getLsbD 2
    line := Bank.tabulate fun p => i.line.get p && !v.getLsbD (4 + p.val)
    suspend := Bank.tabulate fun p => i.suspend.get p && !v.getLsbD (8 + p.val)
    counter := i.counter && !v.getLsbD 12 }

end Sys2Proof.Machine
end

