-- ==== Sys2Proof/Machine/Ops.lean ====
section
/-! DEFINITION. The operations the commands share: the band store, the places of the tables, the in-flight count,
claims and what the fault unit does with them, the ends of in-flight units, suspension, the removal of work items, the
cutting of a response, command completion, the end of a drain, and the posting of store requests. -/

namespace Sys2Proof.Machine

/-! ### The band store (R1, R2) -/

/-- The address of a cell: row × 1024 + column. -/
def cellAddress (row : BitVec 8) (column : BitVec 10) : Nat := row.toNat * 1024 + column.toNat

/-- The listed value of a cell. -/
def cellLookup (m : List (Nat × Word)) (a : Nat) : Option Word :=
  match m with
  | [] => none
  | (b, w) :: rest => if a = b then some w else cellLookup rest a

/-- The list with a cell listed, in its place. -/
def cellInsert (m : List (Nat × Word)) (a : Nat) (v : Word) : List (Nat × Word) :=
  match m with
  | [] => [(a, v)]
  | (b, w) :: rest =>
    if a < b then (a, v) :: (b, w) :: rest
    else if a = b then (a, v) :: rest
    else (b, w) :: cellInsert rest a v

/-- The list without a cell. -/
def cellErase (m : List (Nat × Word)) (a : Nat) : List (Nat × Word) :=
  match m with
  | [] => []
  | (b, w) :: rest => if a = b then rest else (b, w) :: cellErase rest a

/-- The value of a cell: an unlisted cell holds its arbitrary power-on value (R1, log entry 1). -/
def cellValue (powerOns : Nat) (m : List (Nat × Word)) (a : Nat) : Word :=
  (cellLookup m a).getD (Config.powerOnCell powerOns a)

/-- The cells after a write. Writing what the unlisted cell reads as unlists it, so equal stores are equal lists. -/
def cellWrite (powerOns : Nat) (m : List (Nat × Word)) (a : Nat) (v : Word) : List (Nat × Word) :=
  if v = Config.powerOnCell powerOns a then cellErase m a else cellInsert m a v

/-- The value the band store holds at a cell (R1). -/
def State.cell (s : State) (row : BitVec 8) (column : BitVec 10) : Word :=
  cellValue s.powerOns s.store (cellAddress row column)

/-- R2: a write grant replaces the value of one cell. -/
def State.writeCell (s : State) (row : BitVec 8) (column : BitVec 10) (v : Word) : State :=
  { s with store := cellWrite s.powerOns s.store (cellAddress row column) v }

/-! ### Places of the tables -/

/-- A port. -/
def State.port (s : State) (p : Port) : PortState := s.ports.get p

/-- The state with one port replaced. -/
def State.setPort (s : State) (p : Port) (x : PortState) : State := { s with ports := s.ports.set p x }

/-- A head context. -/
def State.context (s : State) (p : Port) (t : Stream) : HeadContext := (s.contexts.get p).get t

/-- The state with one head context replaced. -/
def State.setContext (s : State) (p : Port) (t : Stream) (c : HeadContext) : State :=
  { s with contexts := s.contexts.set p ((s.contexts.get p).set t c) }

/-- A binding slot. -/
def State.slot (s : State) (p : Port) (t : Stream) : Option Binding := (s.bindings.get p).get t

/-- The state with one binding slot replaced. -/
def State.setSlot (s : State) (p : Port) (t : Stream) (b : Option Binding) : State :=
  { s with bindings := s.bindings.set p ((s.bindings.get p).set t b) }

/-- An aperture record. -/
def State.aperture (s : State) (n : ApIndex) : Aperture := s.apertures.get n

/-- The state with one aperture record replaced. -/
def State.setAperture (s : State) (n : ApIndex) (a : Aperture) : State :=
  { s with apertures := s.apertures.set n a }

/-- The outstanding request of a port (R3). -/
def State.request (s : State) (p : Port) : Option Request := s.arbiter.portRequests.get p

/-- The state with the request of a port replaced. -/
def State.setRequest (s : State) (p : Port) (r : Option Request) : State :=
  { s with arbiter := { s.arbiter with portRequests := s.arbiter.portRequests.set p r } }

/-- The state with the host context replaced. -/
def State.setHostContext (s : State) (c : HostContext) : State := { s with hostContext := c }

/-- No grant is being performed any more (R4). -/
def State.endGrant (s : State) : State := { s with arbiter := { s.arbiter with granting := none } }

/-- The four ports, in order. -/
def allPorts : List Port := [0, 1, 2, 3]

/-- The 16 head contexts, in order. -/
def allHeads : List (Port × Stream) :=
  [(0, 0), (0, 1), (0, 2), (0, 3), (1, 0), (1, 1), (1, 2), (1, 3),
   (2, 0), (2, 1), (2, 2), (2, 3), (3, 0), (3, 1), (3, 2), (3, 3)]

/-! ### Work items -/

/-- Whether an item is still receiving its payload (R86). -/
def WorkItem.isReceiving (i : WorkItem) : Bool :=
  match i.state with
  | .receiving _ => true
  | .ready => false
  | .committing _ _ _ _ => false

/-- Whether a write request of the item is outstanding (R86). -/
def WorkItem.cellInHand (i : WorkItem) : Bool :=
  match i.state with
  | .receiving _ => false
  | .ready => false
  | .committing _ inHand _ _ => inHand

/-- Whether the item was removed and only finishes its cell in hand (R69). -/
def WorkItem.isLeaving (i : WorkItem) : Bool :=
  match i.state with
  | .receiving _ => false
  | .ready => false
  | .committing _ _ leaving _ => leaving

/-- Whether the retire engine has counted the item (R145). -/
def WorkItem.isCounted (i : WorkItem) : Bool :=
  match i.state with
  | .receiving _ => false
  | .ready => false
  | .committing _ _ _ counted => counted

/-- R69: what a removal leaves of an item: nothing, unless its cell in hand is set; it then stays, leaving. -/
def WorkItem.cutOff (i : WorkItem) (counts : Bool) : Option WorkItem :=
  match i.state with
  | .receiving _ => none
  | .ready => none
  | .committing c inHand _ counted =>
    if inHand then some { i with state := .committing c true true (counted || counts) } else none

/-- R26: the number of a stream's work items, plus 1 while a RETURN for it is being sent. -/
def State.inFlight (s : State) (p : Port) (t : Stream) : Nat :=
  ((s.port p).queue.filter (fun i => i.stream == t)).length +
    (match (s.port p).builder.current with
     | some r => if r.stream = t then 1 else 0
     | none => 0)

/-- R87: the payload slots held by the WRITE items of a queue. -/
def slotsInUse (queue : List WorkItem) : List (Fin 2) := queue.filterMap (fun i => i.slot)

/-- R87: a free payload slot; "Either free slot may be taken", the lower one here (log entry 7). DESIGN CHOICE. -/
def freeSlot (queue : List WorkItem) : Fin 2 := if (slotsInUse queue).contains 0 then 1 else 0

/-! ### The ends of in-flight units (R145) -/

/-- How an in-flight unit ended (R145). -/
inductive UnitEnd where
  | drained
  | aborted
deriving DecidableEq, Repr

/-- R135, R145: a unit counted; each count saturates at 255. -/
def RetireEngine.count (r : RetireEngine) (how : UnitEnd) : RetireEngine :=
  match how with
  | .drained => { r with drained := min 255 (r.drained + 1) }
  | .aborted => { r with aborted := min 255 (r.aborted + 1) }

/-- R145: a unit of a stream ended. Only the units of a RETIRING context are counted: it is RETIRING only while a
RETIRE command is in progress (R135). -/
def State.unitEnded (s : State) (p : Port) (t : Stream) (how : UnitEnd) : State :=
  if (s.context p t).state = .retiring then { s with retire := s.retire.count how } else s

/-- R145: the units of several items of a port ended. -/
def State.unitsEnded (s : State) (p : Port) (items : List WorkItem) (how : UnitEnd) : State :=
  items.foldl (fun s i => s.unitEnded p i.stream how) s

/-! ### Claims (R163, R164) -/

/-- R163: the aperture index and offset of a context that holds a copy. -/
def HeadContext.walkPoint (c : HeadContext) : Option WalkPoint :=
  c.copy.map fun k => ⟨k.aperture, c.cursor⟩

/-- R156: the aperture index and offset of the host context, if it holds a copy. -/
def HostContext.walkPoint (c : HostContext) : Option WalkPoint :=
  c.copy.map fun k => ⟨k.aperture, c.cursor⟩

/-- R163: a claim found by the decoder for a header it has checked. -/
def headerClaim (kind : FaultKind) (p : Port) (d : HeaderBits) : Claim :=
  ⟨kind, .port p, some (headerStream d), none, some (packetRef d)⟩

/-- R163: a claim found against a head context, with the capture of the packet it concerns. -/
def State.contextClaim (s : State) (kind : FaultKind) (p : Port) (t : Stream) (capture : HeaderBits) : Claim :=
  ⟨kind, .port p, some t, (s.context p t).walkPoint, some (packetRef capture)⟩

/-- R170: two claims have the same collapse key: port, stream or its absence, and kind. -/
def sameKey (a b : Claim) : Bool := a.source == b.source && a.stream == b.stream && a.kind == b.kind

/-- R175: one addition to an error counter. -/
def ErrorCounter.add (c : ErrorCounter) : ErrorCounter :=
  if c.count < 127 then { c with count := c.count + 1 } else { c with overflow := true }

/-- R175: the error counter of the claim's port counts it; at 127 the COUNTER latch is set. -/
def State.countClaim (s : State) (q : Source) : State :=
  { s with
    faults := { s.faults with counters := s.faults.counters.set q.number (s.faults.counters.get q.number).add }
    interrupts := { s.interrupts with
      counter := s.interrupts.counter || decide (127 ≤ (s.faults.counters.get q.number).count) } }

/-- R170: a claim collapses into the record of its key. -/
def collapseInto (queue : List FaultRecord) (c : Claim) : List FaultRecord :=
  queue.map fun r => if sameKey r.claim c then { r with repeats := min 255 (r.repeats + 1) } else r

/-- R169 to R171: a claim of class 1 or 2 collapses, is inserted, or is dropped on a full queue. -/
def State.offerClaim (s : State) (c : Claim) : State :=
  if s.faults.queue.any (fun r => sameKey r.claim c) then
    { s with faults := { s.faults with queue := collapseInto s.faults.queue c } }
  else if s.faults.queue.length < 16 then
    { s with faults := { s.faults with queue := s.faults.queue ++ [⟨c, 1⟩] } }
  else { s with interrupts := { s.interrupts with overflow := true } }

/-- R167, R179: the alert latch is set. -/
def State.setAlert (s : State) : State := { s with faults := { s.faults with alert := true } }

/-- R164, steps 1 to 4, and the alert latch of step 5: the fault unit takes a claim. -/
def State.takeClaim (s : State) (c : Claim) : State :=
  match classIn s.faults.classMap c.kind with
  | .class0 => s.countClaim c.source
  | .class1 => (s.countClaim c.source).offerClaim c
  | .class2 => ((s.countClaim c.source).offerClaim c).setAlert

/-- R79: a report flag of a port is set. -/
def State.setReportFlag (s : State) (p : Port) (k : FaultKind) : State :=
  s.setPort p { s.port p with reportFlags := withReportFlag (s.port p).reportFlags k }

/-! ### Suspension (R74) -/

/-- R45: the decoder turns to SKIP for the bytes the WRITE packet in hand still owes: its 2N + 2 bytes of payload
and checksum less those taken. DEDUCED (log entry 13): a PAD being taken is still taken. -/
def Burst.skipWrite (b : Burst) : Burst :=
  match b.position with
  | .take d taken _ _ =>
    if headerType d = writeCode then
      { b with position := .skip d (2 * (headerParameter d).toNat + 2 - taken) }
    else b
  | .check d low _ =>
    if headerType d = writeCode then
      { b with position := .skip d (if low.isSome then 1 else 2) }
    else b
  | .header _ => b
  | .skip _ _ => b
  | .discard => b

/-- R69, R92: the RECEIVING item of a port is removed at once; `how` tells how its unit ended. -/
def State.removeReceiving (s : State) (p : Port) (how : UnitEnd) : State :=
  (s.unitsEnded p ((s.port p).queue.filter (fun i => i.isReceiving)) how).setPort p
    { s.port p with queue := (s.port p).queue.filter (fun i => !i.isReceiving) }

/-- R45: if the decoder is taking a WRITE whose item is about to be removed, it turns to SKIP. -/
def State.skipReceiving (s : State) (p : Port) : State :=
  if (s.port p).queue.any (fun i => i.isReceiving) then
    s.setPort p { s.port p with burst := (s.port p).burst.map Burst.skipWrite }
  else s

/-- R167: the SUSPEND latch of a port is set. -/
def State.setSuspendLatch (s : State) (p : Port) : State :=
  { s with interrupts := { s.interrupts with suspend := s.interrupts.suspend.set p true } }

/-- The claim an entry into suspension raises (R74, R163). -/
def suspendedClaim (p : Port) : Claim := ⟨.suspended, .port p, none, none, none⟩

/-- R69, R74: a suspension takes the RECEIVING WRITE of a port, and the decoder skips the rest of its packet. -/
def State.dropReceiving (s : State) (p : Port) : State := (s.skipReceiving p).removeReceiving p .aborted

/-- R74: what an entry into SUSPENDED mode does before it raises SUSPENDED. -/
def State.enterSuspended (s : State) (p : Port) : State :=
  let s1 := s.dropReceiving p
  s1.setPort p { s1.port p with mode := .suspended, returns := [] }

/-- R74, R79, R164: the SUSPENDED fault of an entry. If SUSPENDED is in class 2 it finds the port already suspended and
sets the alert latch, nothing more (R167). -/
def State.raiseSuspended (s : State) (p : Port) : State :=
  (s.setReportFlag p .suspended).takeClaim (suspendedClaim p)

/-- R167: the class-2 action on a head port: a RUNNING port is suspended and its SUSPEND latch set. -/
def State.classTwoAction (s : State) (c : Claim) : State :=
  match c.source with
  | .host => s
  | .port p =>
    if classIn s.faults.classMap c.kind = .class2 ∧ (s.port p).mode = .running then
      ((s.enterSuspended p).setSuspendLatch p).raiseSuspended p
    else s

/-- R79: a fault raised on a head port sets its report flag; one on H sets none. -/
def State.flagClaim (s : State) (c : Claim) : State :=
  match c.source with
  | .host => s
  | .port p => s.setReportFlag p c.kind

/-- R79, R164: a fault is raised: the report flag, the fault unit's steps, and the class-2 action. DESIGN CHOICE (log
entry 25): the SUSPENDED of a class-2 action is raised at once, before any further fault of the same event. -/
def State.raise (s : State) (c : Claim) : State := ((s.flagClaim c).takeClaim c).classTwoAction c

/-- Several faults raised in order (R163), each taken whole with its class-2 action before the next. DESIGN CHOICE (log
entry 25): SUSPENDED comes between its cause and the event's remaining faults. -/
def State.raiseAll (s : State) (cs : List Claim) : State := cs.foldl State.raise s

/-- R74: a suspension by SUSPEND_PORT; it sets no SUSPEND latch, and does nothing to a port already SUSPENDED. -/
def State.suspendByCommand (s : State) (p : Port) : State :=
  if (s.port p).mode = .running then (s.enterSuspended p).raiseSuspended p else s

/-! ### Removal of work items and cutting of a response (R69, R117, R140) -/

/-- R69: the items of a port that `chosen` names are removed by a port event or an abort. Those that `told` names are
counted as aborted if their context is RETIRING (R145). -/
def State.removeItems (s : State) (p : Port) (chosen told : WorkItem → Bool) : State :=
  (s.unitsEnded p ((s.port p).queue.filter (fun i => chosen i && told i)) .aborted).setPort p
    { s.port p with
      queue := (s.port p).queue.filterMap fun i =>
        if chosen i then i.cutOff (told i && (s.context p i.stream).state == .retiring) else some i }

/-- R3: the value of the port's outstanding request is no longer wanted. -/
def State.dropRequestValue (s : State) (p : Port) : State :=
  s.setRequest p ((s.request p).map fun r => { r with wanted := false })

/-- R117: a response being sent is cut: the RETURN in hand goes with its in-flight unit, the value of its outstanding
read is discarded when it is granted, the builder becomes IDLE, and the burst ends without its end symbol. -/
def State.cutResponse (s : State) (p : Port) : State :=
  if (s.port p).link = .responding then
    let s1 :=
      match (s.port p).builder.current with
      | some r => (s.unitEnded p r.stream .aborted).dropRequestValue p
      | none => s
    s1.setPort p { s1.port p with builder := Builder.idle, line := { (s1.port p).line with status := .cut } }
  else s

/-! ### Command completion (R125, R133) -/

/-- R125: a command completes with a result and details; the unit is IDLE and CMD_DONE is set. -/
def State.completeWith (s : State) (code : ResultCode) (d0 d1 d2 : Nat) : State :=
  { s with
    command := { s.command with
      busy := false
      result := code
      details := ((s.command.details.set 0 (BitVec.ofNat 8 d0)).set 1 (BitVec.ofNat 8 d1)).set 2 (BitVec.ofNat 8 d2) }
    interrupts := { s.interrupts with cmdDone := true } }

/-- R125: a command other than RETIRE completes; its details stay 0. -/
def State.complete (s : State) (code : ResultCode) : State := s.completeWith code 0 0 0

/-- R135, R141, R144, R147: a RETIRE completes: its counts reach the details, the timer stops, and the engine is IDLE
with an empty set. DESIGN CHOICE (log entry 27): the engine keeps the three counts until the next take of a RETIRE that
affects a context. -/
def State.completeRetire (s : State) (code : ResultCode) : State :=
  { s.completeWith code s.retire.retired s.retire.drained s.retire.aborted with
    retire := { s.retire with phase := .idle, affected := [], timer := none } }

/-! ### The end of a drain (R35, R144) -/

/-- R35: a context becomes RETIRED: cursor 0, end indicator clear, the rest kept. -/
def HeadContext.retire (c : HeadContext) : HeadContext :=
  { c with state := .retired, cursor := 0, endIndicator := false }

/-- R144: a RETIRING context whose in-flight count is 0 becomes RETIRED. -/
def State.retireIfDrained (s : State) (h : Port × Stream) : State :=
  if (s.context h.1 h.2).state = .retiring ∧ s.inFlight h.1 h.2 = 0 then
    s.setContext h.1 h.2 (s.context h.1 h.2).retire
  else s

/-- Whether some head context is RETIRING. -/
def State.anyRetiring (s : State) : Bool :=
  allHeads.any fun h => (s.context h.1 h.2).state == .retiring

/-- R144: during a drain, every RETIRING context with no unit left becomes RETIRED, and when none is left RETIRING the
command completes with DONE. It is the last thing of an event. DESIGN CHOICE (log entry 26): the faults of the event
find the contexts as they stood before it. -/
def State.settleDrain (s : State) : State :=
  match s.retire.phase with
  | .idle => s
  | .draining =>
    let s1 := allHeads.foldl State.retireIfDrained s
    if s1.anyRetiring then s1 else s1.completeRetire .done

/-! ### Cursor advance and marks (R18, R36, R37, R189) -/

/-- R36, R37: a head context's cursor advances by one cell. -/
def HeadContext.advance (c : HeadContext) : HeadContext :=
  match c.copy with
  | none => c
  | some k =>
    if c.cursor + 1 < k.geometry.size then { c with cursor := c.cursor + 1 }
    else if c.cursor + 1 = k.geometry.size then
      match k.geometry.policy with
      | .loop => { c with cursor := 0, passes := c.passes + 1 }
      | .stop =>
        match c.state with
        | .retiring => { c with cursor := c.cursor + 1, endIndicator := true }
        | .opened => { c with cursor := c.cursor + 1, state := .ended }
        | .empty => { c with cursor := c.cursor + 1 }
        | .ended => { c with cursor := c.cursor + 1 }
        | .retired => { c with cursor := c.cursor + 1 }
    else c

/-- R37, R158: the host context's cursor advances by one cell. -/
def HostContext.advance (c : HostContext) : HostContext :=
  match c.copy with
  | none => c
  | some k =>
    if c.cursor + 1 < k.geometry.size then { c with cursor := c.cursor + 1 }
    else if c.cursor + 1 = k.geometry.size then
      match k.geometry.policy with
      | .loop => { c with cursor := 0, passes := c.passes + 1 }
      | .stop => { c with cursor := c.cursor + 1, state := .ended }
    else c

/-- R35, R36, R118, R189: a performed grant advances its context's cursor if the walk it was posted for still stands
and the context is OPEN or RETIRING (log entry 9). DEDUCED. -/
def State.advanceFor (s : State) (p : Port) (r : Request) : State :=
  match r.stream with
  | none => s
  | some t =>
    if r.standing ∧ ((s.context p t).state = .opened ∨ (s.context p t).state = .retiring) then
      s.setContext p t (s.context p t).advance
    else s

/-- R18, R189: a performed write grant sets the mark flag if its cell is the marking cell and the entry is DEFINED with
the carried generation at that moment. -/
def State.markFor (s : State) (r : Request) : State :=
  if r.marking ∧ (s.aperture r.aperture).isDefined ∧ (s.aperture r.aperture).generation = r.generation then
    { s with marks := withMark s.marks r.aperture }
  else s

/-! ### Posting (R3, R95, R112, R154, R155) -/

/-- R36, R189: the request for the cell at a cursor of a copy. -/
def requestAt (access : Access) (stream : Option Stream) (k : Copy) (cursor : Nat) : Request where
  access := access
  row := k.geometry.rowAt cursor
  column := k.geometry.columnAt cursor
  stream := stream
  aperture := k.aperture
  generation := k.generation
  marking := k.geometry.isMarking cursor
  wanted := true
  standing := true

/-- R3, R36: a port posts a request at the cursor of a context, when its request path is free and the cursor is below
the copy's size. -/
def State.requestFor (s : State) (p : Port) (t : Stream) (access : Access) : Option Request :=
  match s.request p, (s.context p t).copy with
  | none, some k =>
    if (s.context p t).cursor < k.geometry.size then
      some (requestAt access (some t) k (s.context p t).cursor)
    else none
  | _, _ => none

/-- R118, R189: the walk that a port's outstanding request was posted for is over: its context was retired by an abort,
emptied or reloaded. -/
def State.endWalk (s : State) (p : Port) (t : Stream) : State :=
  s.setRequest p ((s.request p).map fun r => if r.stream = some t then { r with standing := false } else r)

/-- R81: the ACK count advances by one, saturating at 65535. -/
def State.countAck (s : State) (p : Port) : State :=
  s.setPort p { s.port p with ackCount := min 65535 ((s.port p).ackCount + 1) }

/-- R81, R93, R145: the item at the head of a work queue is removed at the end of its execution: it counts in the ACK
count, and as drained if its context is RETIRING. -/
def State.finishHead (s : State) (p : Port) : State :=
  match (s.port p).queue with
  | [] => s
  | i :: rest =>
    let s1 := s.unitEnded p i.stream .drained
    (s1.setPort p { s1.port p with queue := rest }).countAck p

/-- Whether a context stands at the end of a STOP copy (R97). -/
def HeadContext.atEnd (c : HeadContext) : Bool :=
  match c.copy with
  | none => false
  | some k => k.geometry.policy == .stop && decide (k.geometry.size ≤ c.cursor)

/-- The value of payload cell `j` of an item, from its slot (R95). -/
def PortState.payloadCell (x : PortState) (i : WorkItem) (j : Nat) : Word :=
  match i.slot with
  | none => 0
  | some k => (x.slots.get k).getD j 0

/-- The queue with the state of its head item replaced. -/
def setHeadState (queue : List WorkItem) (st : ItemState) : List WorkItem :=
  match queue with
  | [] => []
  | i :: rest => { i with state := st } :: rest

/-- R95 to R97: a commit whose cell in hand is clear goes on: it ends when its cells are committed, ends with
APERTURE_END at the end of a STOP copy, and otherwise posts the request for its next cell. DEDUCED (log entry 10):
the cursor may stand at the end before the commit's own first cell. -/
def State.continueCommit (s : State) (p : Port) : State :=
  match (s.port p).queue with
  | [] => s
  | i :: _ =>
    match i.state with
    | .receiving _ => s
    | .ready => s
    | .committing c inHand leaving counted =>
      if inHand ∨ leaving then s
      else if i.parameter.toNat ≤ c then s.finishHead p
      else if (s.context p i.stream).atEnd then
        (s.raise (s.contextClaim .apertureEnd p i.stream i.capture)).finishHead p
      else
        match s.requestFor p i.stream (.write ((s.port p).payloadCell i c)) with
        | none => s
        | some r =>
          (s.setRequest p (some r)).setPort p
            { s.port p with queue := setHeadState (s.port p).queue (.committing c true false counted) }

/-- R112: the builder posts the read request for the next cell of the RETURN being sent, unless retirement has cut it
short (R118). DESIGN CHOICE (log entry 24): a RETURN begun while the read of an earlier, cut RETURN of its stream is
outstanding posts its first request after that read's grant, at the cursor the grant has moved; where the moved cursor
stands at the end of a STOP copy it posts none, and its RETURN_END does not come. -/
def State.continueReturn (s : State) (p : Port) : State :=
  match (s.port p).builder.current with
  | none => s
  | some r =>
    if r.zeroFilled ∨ r.length ≤ r.cells.length then s
    else
      match s.requestFor p r.stream .read with
      | none => s
      | some q => s.setRequest p (some q)

/-! ### The outcome of a command -/

/-- A command other than a host bus cycle. While RESET is asserted nothing is reported and nothing runs (R181); the
end of a drain belongs to the event that ends its last unit (R144). DESIGN CHOICE (log entry 19): a command while RESET
is asserted changes nothing. DESIGN CHOICE (log entry 26): the drained contexts become RETIRED at the end of the event,
after its faults are raised. -/
def operate (s : State) (effect : State → State) : Host.Outcome State Fault Refusal :=
  if s.inReset then .next s else .next (effect s).settleDrain

end Sys2Proof.Machine
end

