-- ==== Sys2Proof/Machine/Decoder.lean ====
section
/-! DEFINITION. The packet decoder and the arrival of packets (ch 3; ch 5, sections 5.2 and 5.3): bursts, header checks,
payloads and checksums, the receive timeout. -/

namespace Sys2Proof.Machine

/-- The open burst's position is changed; nothing without an open burst. -/
def State.setPosition (s : State) (p : Port) (x : Position) : State :=
  s.setPort p { s.port p with burst := (s.port p).burst.map fun b => { b with position := x } }

/-! ### Opening and closing a burst (R44, R46, R47) -/

/-- R44, R61: a burst opens in HEADER with clear indicators, and the receive timer starts unless the limit is 0. -/
def State.openBurst (s : State) (p : Port) : State :=
  s.setPort p
    { s.port p with
      burst := some ⟨.header [], false, false⟩
      rxTimer := if (s.port p).rxLimit = 0 then none else some (s.port p).rxLimit.toNat }

/-- R46, R62: the packet in hand, where its header had been accepted. -/
def Position.packetInHand : Position → Option HeaderBits
  | .take d _ _ _ => some d
  | .check d _ _ => some d
  | .skip d _ => some d
  | .header _ => none
  | .discard => none

/-- R46, R62, R163: the claim of a burst-level fault. -/
def burstClaim (kind : FaultKind) (p : Port) (x : Position) : Claim :=
  match x.packetInHand with
  | some d => ⟨kind, .port p, some (headerStream d), none, some (packetRef d)⟩
  | none => ⟨kind, .port p, none, none, none⟩

/-- R45: a burst that ends in HEADER with an empty buffer, or in DISCARD, ends normally. -/
def Position.endsNormally : Position → Bool
  | .header collected => collected.isEmpty
  | .discard => true
  | .take _ _ _ _ => false
  | .check _ _ _ => false
  | .skip _ _ => false

/-- R44: the decoder holds no open burst and the receive timer is stopped. -/
def State.dropBurst (s : State) (p : Port) : State :=
  s.setPort p { s.port p with burst := none, rxTimer := none }

/-- R47, R73: a TURN is handed over: the port enters TURN_WAIT. -/
def State.handTurn (s : State) (p : Port) : State := s.setPort p { s.port p with link := .turnWait }

/-- R44, R46, R47: the close of an open burst by its end symbol. A burst that ends inside a packet is broken: its
RECEIVING item is removed and BURST_BROKEN raised, at most once a burst. A TURN that was seen is handed over. DESIGN
CHOICE (log entry 21): a RECEIVING item is removed, and counted, before the fault is raised. -/
def State.closeBurst (s : State) (p : Port) : State :=
  match (s.port p).burst with
  | none => s
  | some b =>
    let s1 := (s.removeReceiving p .drained).dropBurst p
    let s2 := if b.position.endsNormally ∨ b.broken then s1 else s1.raise (burstClaim .burstBroken p b.position)
    if b.turnSeen then s2.handTurn p else s2

/-- R44, R47: BURST_START. In an open burst it first closes that burst; a new one opens unless the close handed over a
TURN. -/
def State.takeBurstStart (s : State) (p : Port) : State :=
  if (s.port p).link = .listening then
    let s1 := s.closeBurst p
    if (s1.port p).link = .listening then s1.openBurst p else s1
  else s

/-- R44, R46: BURST_END. -/
def State.takeBurstEnd (s : State) (p : Port) : State :=
  if (s.port p).link = .listening then s.closeBurst p else s

/-- R46: CODE_VIOLATION in any position but DISCARD breaks the burst and sets DISCARD. DESIGN CHOICE (log entry 21):
a RECEIVING item is removed, and counted, before the fault is raised. -/
def State.takeCodeViolation (s : State) (p : Port) : State :=
  if (s.port p).link = .listening then
    match (s.port p).burst with
    | none => s
    | some b =>
      match b.position with
      | .discard => s
      | .header _ | .take _ _ _ _ | .check _ _ _ | .skip _ _ =>
        let s1 := s.removeReceiving p .drained
        let s2 := s1.setPort p { s1.port p with burst := some { b with position := .discard, broken := true } }
        if b.broken then s2 else s2.raise (burstClaim .burstBroken p b.position)
  else s

/-- R62: the receive timer of a port expires: the open burst is abandoned, its RECEIVING item removed, RX_TIMEOUT
raised, and a TURN seen is lost. Without a running timer there is nothing to expire. DESIGN CHOICE (log entry 21): a
RECEIVING item is removed, and counted, before the fault is raised. -/
def State.expireReceive (s : State) (p : Port) : State :=
  match (s.port p).rxTimer, (s.port p).burst with
  | some _, some b => ((s.removeReceiving p .drained).dropBurst p).raise (burstClaim .rxTimeout p b.position)
  | _, _ => s

/-! ### Delivery of a packet (R59, R60, R63, R64, R88, R101) -/

/-- Where the decoder goes after a packet that is not acted on: a long packet is skipped by its length (R58, R60). -/
def afterRejected (d : HeaderBits) : Position :=
  if headerIsLong d then .skip d (2 * (headerParameter d).toNat + 2) else .header []

/-- R88, R101: what the arrival checks say of a packet. -/
inductive Arrival where
  | appended
  | rejected (kind : FaultKind)
deriving DecidableEq, Repr

/-- R88, R101: the arrival checks, in order. -/
def State.judgeArrival (s : State) (p : Port) (kind : ItemKind) (d : HeaderBits) : Arrival :=
  if (s.context p (headerStream d)).state = .retiring then .rejected .retired
  else if kind = .read ∧ ¬ (1 ≤ (headerParameter d).toNat ∧ (headerParameter d).toNat ≤ 1024) then
    .rejected .badParameter
  else if 4 ≤ (s.port p).queue.length then .rejected .overrun
  else if kind = .write ∧ 2 ≤ ((s.port p).queue.filter (fun i => i.kind == .write)).length then .rejected .overrun
  else .appended

/-- R86, R89: the work item of a packet as it is appended. -/
def newItem (kind : ItemKind) (d : HeaderBits) (queue : List WorkItem) : WorkItem where
  kind := kind
  stream := headerStream d
  parameter := headerParameter d
  capture := d
  state := if kind = .write then .receiving 0 else .ready
  slot := if kind = .write then some (freeSlot queue) else none

/-- R87, R89: an item joins the tail of the work queue; a WRITE takes a free payload slot. -/
def State.appendItem (s : State) (p : Port) (kind : ItemKind) (d : HeaderBits) : State :=
  let i := newItem kind d (s.port p).queue
  s.setPort p
    { s.port p with
      queue := (s.port p).queue ++ [i]
      slots := match i.slot with
        | some k => (s.port p).slots.set k []
        | none => (s.port p).slots }

/-- R60, R88: a work packet is offered to its port's work queue. -/
def State.offerPacket (s : State) (p : Port) (kind : ItemKind) (d : HeaderBits) : State :=
  match s.judgeArrival p kind d with
  | .rejected k =>
    (s.raise (s.contextClaim k p (headerStream d) d)).setPosition p (afterRejected d)
  | .appended =>
    (s.appendItem p kind d).setPosition p (if kind = .write then .take d 0 0 sumPreset else .header [])

/-- R64: a LIMIT acts at its arrival. -/
def State.takeLimit (s : State) (p : Port) (d : HeaderBits) : State :=
  if 1 ≤ (headerParameter d).toNat ∧ (headerParameter d).toNat ≤ 512 then
    s.setPort p { s.port p with returnLimit := (headerParameter d).toNat }
  else s.raise (headerClaim .badParameter p d)

/-- R47: a TURN sets the turn-seen indicator of the open burst. -/
def State.seeTurn (s : State) (p : Port) : State :=
  s.setPort p { s.port p with burst := (s.port p).burst.map fun b => { b with turnSeen := true } }

/-- R60, R76: a WRITE is offered to its port's work queue. DEDUCED (log entry 11): where a fault of the WRITE's own
header, in class 2, has suspended the port, the WRITE is appended as RECEIVING and then removed by that suspension. -/
def State.deliverWrite (s : State) (p : Port) (d : HeaderBits) : State :=
  let s1 := s.offerPacket p .write d
  if (s1.port p).mode = .suspended then s1.dropReceiving p else s1

/-- R60: a good header that has passed its checks is delivered by type. -/
def State.deliver (s : State) (p : Port) (type : PacketType) (d : HeaderBits) : State :=
  match type with
  | .nop => (s.countAck p).setPosition p (.header [])
  | .limit => ((s.takeLimit p d).countAck p).setPosition p (.header [])
  | .turn => (s.seeTurn p).setPosition p (.header [])
  | .pad => s.setPosition p (.take d 0 0 sumPreset)
  | .start => s.offerPacket p .start d
  | .stop => s.offerPacket p .stop d
  | .read => s.offerPacket p .read d
  | .write => s.deliverWrite p d

/-! ### Checking a header (R52 to R59) -/

/-- What the format checks say of a good header (R58). -/
inductive FormatVerdict where
  /-- the length cannot be trusted: the rest of the burst is discarded -/
  | discardBurst
  /-- this packet is discarded -/
  | discardPacket
  | good (type : PacketType)
deriving DecidableEq, Repr

/-- R58: the format checks, in order. -/
def formatCheck (turnSeen : Bool) (d : HeaderBits) : FormatVerdict :=
  if headerIsLong d ∧ ¬ (1 ≤ (headerParameter d).toNat ∧ (headerParameter d).toNat ≤ 1024) then .discardBurst
  else if turnSeen then .discardPacket
  else if headerReserved d ≠ 0 then .discardPacket
  else
    match packetType (headerType d) with
    | none => .discardPacket
    | some t => .good t

/-- R57: the sequence check of a good header, and the new expectation. A SEQUENCE fault discards nothing. -/
def State.checkSequence (s : State) (p : Port) (d : HeaderBits) : State :=
  let s1 :=
    match (s.port p).expectation with
    | none => s
    | some e => if e = headerSequence d then s else s.raise (headerClaim .sequence p d)
  s1.setPort p { s1.port p with expectation := some (headerSequence d + 1) }

/-- R58 to R60: the format checks, the suspension check and the delivery of a good header. The suspension check of R59
asks for `found`, the port's mode when the header completed (R76): a suspension by the header's own HDR_CORRECTED or
SEQUENCE does not discard its packet (R57, R164; for HDR_CORRECTED DEDUCED from R53 and R76, log entry 11). -/
def State.acceptHeader (s : State) (p : Port) (found : Mode) (turnSeen : Bool) (d : HeaderBits) : State :=
  match formatCheck turnSeen d with
  | .discardBurst => (s.raise (headerClaim .format p d)).setPosition p .discard
  | .discardPacket => (s.raise (headerClaim .format p d)).setPosition p (afterRejected d)
  | .good type =>
    if found = .suspended ∧ type ≠ .turn then s.setPosition p (afterRejected d)
    else s.deliver p type d

/-- R52 to R60: a header whose five bytes are in is judged; a good one goes through the sequence check, the format
checks, the suspension check and delivery. -/
def State.takeHeader (s : State) (p : Port) (turnSeen : Bool) (d : HeaderBits) (check : Byte) : State :=
  let found := (s.port p).mode
  match judgeHeader d check with
  | .clean d => (s.checkSequence p d).acceptHeader p found turnSeen d
  | .corrected d => ((s.raise (headerClaim .hdrCorrected p d)).checkSequence p d).acceptHeader p found turnSeen d
  | .uncorrectable => (s.raise (headerClaim .hdrUncorrectable p d)).setPosition p .discard

/-! ### Payload and checksum (R45, R56, R63, R87, R91) -/

/-- R87: a payload cell enters the slot of the RECEIVING item. -/
def State.receiveCell (s : State) (p : Port) (v : Word) : State :=
  match (s.port p).queue.find? (fun i => i.isReceiving) with
  | none => s
  | some i =>
    s.setPort p
      { s.port p with
        slots := match i.slot with
          | some k => (s.port p).slots.set k ((s.port p).slots.get k ++ [v])
          | none => (s.port p).slots
        queue := (s.port p).queue.map fun i =>
          match i.state with
          | .receiving r => { i with state := .receiving (r + 1) }
          | .ready => i
          | .committing _ _ _ _ => i }

/-- R45: a payload byte of a packet in TAKE; after 2N bytes the position becomes CHECK. -/
def State.takePayloadByte (s : State) (p : Port) (d : HeaderBits) (taken : Nat) (lastByte : Byte) (sum : Word)
    (b : Byte) : State :=
  let s1 :=
    if headerType d = writeCode ∧ (taken + 1) % 2 = 0 then s.receiveCell p (cellOfBytes lastByte b) else s
  s1.setPosition p
    (if 2 * (headerParameter d).toNat ≤ taken + 1 then .check d none (sumByte sum b)
     else .take d (taken + 1) b (sumByte sum b))

/-- R91: the RECEIVING item becomes READY. -/
def State.readyReceiving (s : State) (p : Port) : State :=
  s.setPort p
    { s.port p with
      queue := (s.port p).queue.map fun i =>
        match i.state with
        | .receiving _ => { i with state := .ready }
        | .ready => i
        | .committing _ _ _ _ => i }

/-- R56, R63, R91: the checksum of a WRITE or PAD is compared. DESIGN CHOICE (log entry 21): a RECEIVING item is
removed, and counted, before the fault is raised. DESIGN CHOICE (log entry 26): where it was the last in-flight unit of a
RETIRING context, CHECKSUM still carries the cursor from before the context becomes RETIRED. -/
def State.compareSum (s : State) (p : Port) (d : HeaderBits) (sum received : Word) : State :=
  let s1 :=
    if headerType d = writeCode then
      if received = sum then s.readyReceiving p
      else (s.removeReceiving p .drained).raise (s.contextClaim .checksum p (headerStream d) d)
    else if received = sum then s.countAck p
    else s.raise (headerClaim .checksum p d)
  s1.setPosition p (.header [])

/-- R45: a byte in an open burst, by the decoder's position. -/
def State.takeByteIn (s : State) (p : Port) (burst : Burst) (b : Byte) : State :=
  match burst.position with
  | .header [b0, b1, b2, b3] => s.takeHeader p burst.turnSeen (headerOfBytes b0 b1 b2 b3) b
  | .header collected => s.setPosition p (.header (collected ++ [b]))
  | .take d taken lastByte sum => s.takePayloadByte p d taken lastByte sum b
  | .check d none sum => s.setPosition p (.check d (some b) sum)
  | .check d (some low) sum => s.compareSum p d sum (cellOfBytes low b)
  | .skip d owed => s.setPosition p (if owed ≤ 1 then .header [] else .skip d (owed - 1))
  | .discard => s

/-- R43 to R45: a byte. It is taken in LISTENING inside an open burst. -/
def State.takeByte (s : State) (p : Port) (b : Byte) : State :=
  if (s.port p).link = .listening then
    match (s.port p).burst with
    | none => s
    | some burst => s.takeByteIn p burst b
  else s

/-- BURST_START (R44). -/
def execBurstStart (p : Port) (s : State) : Host.Outcome State Fault Refusal :=
  operate s fun s => s.takeBurstStart p

/-- BYTE (R45). -/
def execByte (p : Port) (b : Byte) (s : State) : Host.Outcome State Fault Refusal :=
  operate s fun s => s.takeByte p b

/-- BURST_END (R46). -/
def execBurstEnd (p : Port) (s : State) : Host.Outcome State Fault Refusal :=
  operate s fun s => s.takeBurstEnd p

/-- CODE_VIOLATION (R46). -/
def execCodeViolation (p : Port) (s : State) : Host.Outcome State Fault Refusal :=
  operate s fun s => s.takeCodeViolation p

/-- RECEIVE_TIMEOUT (R62). -/
def execReceiveTimeout (p : Port) (s : State) : Host.Outcome State Fault Refusal :=
  operate s fun s => s.expireReceive p

end Sys2Proof.Machine
end

