-- ==== Sys2Proof/Machine/Grants.lean ====
section
/-! DEFINITION. The store arbiter's choice (R4) and what a performed grant of a port does (R2, R95 to R99, R112, R113,
R189, R190). The host's grant is in Sys2Proof/Machine/Window.lean. -/

namespace Sys2Proof.Machine

/-- R4: the requesters in cyclic order, from the one after the pointer. -/
def cyclicAfter : Source → List Source
  | .port 0 => [.port 1, .port 2, .port 3, .host, .port 0]
  | .port 1 => [.port 2, .port 3, .host, .port 0, .port 1]
  | .port 2 => [.port 3, .host, .port 0, .port 1, .port 2]
  | .port 3 => [.host, .port 0, .port 1, .port 2, .port 3]
  | .host => [.port 0, .port 1, .port 2, .port 3, .host]

/-- Whether a requester has an outstanding request (R3). -/
def Arbiter.hasRequest (a : Arbiter) : Source → Bool
  | .port p => (a.portRequests.get p).isSome
  | .host => a.hostRequest.isSome

/-- R4: with no grant being performed and a request outstanding, the next requester in cyclic order is granted, and the
pointer names it. -/
def Arbiter.choose (a : Arbiter) : Arbiter :=
  match a.granting with
  | some _ => a
  | none =>
    match (cyclicAfter a.pointer).find? a.hasRequest with
    | none => a
    | some q => { a with pointer := q, granting := some q }

/-- R4: the arbiter's choice is made. -/
def State.chooseGrant (s : State) : State := { s with arbiter := s.arbiter.choose }

/-- R69, R95, R99, R190: the cell of the item at the head of the queue has been written. An item that was leaving is
removed, and counted as aborted if it has not been counted; any other has one cell more committed. -/
def State.cellCommitted (s : State) (p : Port) : State :=
  match (s.port p).queue with
  | [] => s
  | i :: rest =>
    match i.state with
    | .receiving _ => s
    | .ready => s
    | .committing c _ leaving counted =>
      if leaving then
        let s1 := if counted then s else s.unitEnded p i.stream .aborted
        s1.setPort p { s1.port p with queue := rest }
      else
        s.setPort p
          { s.port p with queue := setHeadState (s.port p).queue (.committing (c + 1) false false counted) }

/-- R112: the value of a read grant is placed in the RETURN being sent. -/
def State.placeCell (s : State) (p : Port) (v : Word) : State :=
  s.setPort p
    { s.port p with
      builder := { (s.port p).builder with
        current := (s.port p).builder.current.map fun r => { r with cells := r.cells ++ [v] } } }

/-- The request of a port is no longer outstanding and no grant is being performed. -/
def State.releasePort (s : State) (p : Port) : State :=
  { s with
    arbiter := { s.arbiter with granting := none, portRequests := s.arbiter.portRequests.set p none } }

/-- R2, R95, R112: the grant of a port's request has been performed. A write stores its value, makes the mark test and
advances its context; a read advances its context and hands its value to the RETURN being sent if it is still wanted.
The port then posts its next request, unless its commit or its RETURN has what it needs. -/
def State.performPort (s : State) (p : Port) : State :=
  match s.request p with
  | none => s.endGrant
  | some r =>
    let s1 := s.releasePort p
    match r.access with
    | .write v =>
      ((((s1.writeCell r.row r.column v).markFor r).advanceFor p r).cellCommitted p).continueCommit p
    | .read =>
      let s2 := s1.advanceFor p r
      let s3 := if r.wanted then s2.placeCell p (s.cell r.row r.column) else s2
      (s3.continueCommit p).continueReturn p

/-- ARBITER_GRANT (R4). -/
def execArbiterGrant (s : State) : Host.Outcome State Fault Refusal :=
  operate s State.chooseGrant

end Sys2Proof.Machine
end

