-- ==== Sys2Proof/Machine/Port.lean ====
section
/-! DEFINITION. Port operation (ch 4): enable, disable, the line events LINE_UP and LINE_DOWN, and RESET_PORT. -/

namespace Sys2Proof.Machine

/-- R67: an enable bit changes from 0 to 1: OFF to WAIT_SYNC, the receiver without lock. -/
def State.enablePort (s : State) (p : Port) : State :=
  s.setPort p { s.port p with enabled := true, link := .waitSync }

/-- R68: the disable, but for the enable bit. Every work item is removed as R69 states, the return queue is emptied, a
response is cut, and the report flags and the ACK count clear. -/
def State.disablePort (s : State) (p : Port) : State :=
  let s1 := s.cutResponse p
  let s2 := s1.removeItems p (fun _ => true) (fun i => !i.isLeaving)
  s2.setPort p
    { s2.port p with
      link := .off
      burst := none
      rxTimer := none
      returns := []
      reportFlags := 0
      ackCount := 0 }

/-- R67: what a CONTROL write does to one port, by the bit held and the bit written. -/
def State.writeEnable (s : State) (p : Port) (written : Bool) : State :=
  match (s.port p).enabled, written with
  | false, false => s
  | false, true => s.enablePort p
  | true, true => s
  | true, false => (s.disablePort p).setPort p { (s.disablePort p).port p with enabled := false }

/-- R67, R182: a CONTROL write with SOFT_RESET at 0 is taken bit by bit, each port on its own. -/
def State.writeEnables (s : State) (v : Word) : State :=
  allPorts.foldl (fun s p => s.writeEnable p (v.getLsbD p.val)) s

/-- R70, R71: the LINE latch of a port is set. -/
def State.setLineLatch (s : State) (p : Port) : State :=
  { s with interrupts := { s.interrupts with line := s.interrupts.line.set p true } }

/-- R70: LINE_UP in WAIT_SYNC. -/
def State.takeLineUp (s : State) (p : Port) : State :=
  if (s.port p).link = .waitSync then
    (s.setPort p { s.port p with link := .listening, expectation := none, responseCounter := 0 }).setLineLatch p
  else s

/-- R71: LINE_DOWN in LISTENING, TURN_WAIT or RESPONDING: the open burst is closed without a burst-level fault, the
RECEIVING item is removed, the return queue emptied, a response cut, the turnaround forgotten. -/
def State.loseLine (s : State) (p : Port) : State :=
  let s1 := (s.cutResponse p).removeReceiving p .aborted
  (s1.setPort p { s1.port p with link := .waitSync, burst := none, rxTimer := none, returns := [] }).setLineLatch p

/-- R43, R71. -/
def State.takeLineDown (s : State) (p : Port) : State :=
  match (s.port p).link with
  | .off => s
  | .waitSync => s
  | .listening => s.loseLine p
  | .turnWait => s.loseLine p
  | .responding => s.loseLine p

/-- R78: the state RESET_PORT clears, the error counter included. -/
def State.clearPort (s : State) (p : Port) : State :=
  let s1 := s.setPort p
    { s.port p with
      reportFlags := 0
      returnLimit := 32
      expectation := none
      responseCounter := 0
      ackCount := 0
      mode := .running }
  { s1 with faults := { s1.faults with counters := s1.faults.counters.set (Source.port p).number ⟨0, false⟩ } }

/-- R78: RESET_PORT. An enabled port is disabled and enabled again; a disabled one stays OFF. -/
def State.resetOnePort (s : State) (p : Port) : State :=
  if (s.port p).enabled then ((s.disablePort p).enablePort p).clearPort p else s.clearPort p

/-- LINE_UP (R70). -/
def execLineUp (p : Port) (s : State) : Host.Outcome State Fault Refusal :=
  operate s fun s => s.takeLineUp p

/-- LINE_DOWN (R71). -/
def execLineDown (p : Port) (s : State) : Host.Outcome State Fault Refusal :=
  operate s fun s => s.takeLineDown p

end Sys2Proof.Machine
end

