-- ==== Sys2Proof/Machine/Reset.lean ====
section
/-! DEFINITION. The two resets: the RESET input (R181) and the soft reset (R84, R134 and the soft reset clauses of the
other chapters). -/

namespace Sys2Proof.Machine

/-- R84: a port after a soft reset. The receive limit is kept; a freed payload slot's contents stay behind (R87). -/
def PortState.softReset (x : PortState) : PortState where
  enabled := false
  link := .off
  mode := .running
  burst := none
  rxTimer := none
  rxLimit := x.rxLimit
  expectation := none
  returnLimit := 32
  queue := []
  slots := x.slots
  returns := []
  builder := Builder.idle
  reportFlags := 0
  ackCount := 0
  responseCounter := 0
  line := if x.link = .responding then { x.line with status := .cut } else x.line

/-- R134: the command unit after a soft reset. -/
def CommandUnit.softReset (u : CommandUnit) : CommandUnit :=
  { u with busy := false, collision := false, result := .none, details := Bank.fill 3 0, staged := Bank.fill 4 0 }

/-- R177: a soft reset clears CMD_DONE, LINE, SUSPEND and COUNTER, and keeps OVERFLOW and the mask. -/
def InterruptUnit.softReset (i : InterruptUnit) : InterruptUnit :=
  { i with cmdDone := false, line := Bank.fill 4 false, suspend := Bank.fill 4 false, counter := false }

/-- R6, R7, R19, R21, R28, R84, R134, R135, R174 to R179, R41, R160: the soft reset of every block. -/
def State.softResetBlocks (s : State) : State :=
  { s with
    arbiter := Arbiter.reset
    marks := 0
    contexts := Bank.fill 4 (Bank.fill 4 HeadContext.reset)
    hostContext := HostContext.reset
    ports := Bank.tabulate fun p => (s.port p).softReset
    command := s.command.softReset
    retire := { RetireEngine.reset with drainLimit := s.retire.drainLimit }
    faults := { s.faults with counters := Bank.fill 5 ⟨0, false⟩ }
    interrupts := s.interrupts.softReset
    window := { s.window with ctxHold := 0, hostHold := 0 } }

/-- R6: "A grant already being performed when the soft reset is taken completes before the soft reset's effects on the
arbiter": a port's grant in progress is performed first (log entry 14). -/
def State.finishGrant (s : State) : State :=
  match s.arbiter.granting with
  | some (.port p) => (s.performPort p).settleDrain
  | some .host => s
  | none => s

/-- R182: a write to CONTROL with SOFT_RESET at 1. -/
def State.softResetAll (s : State) : State := s.finishGrant.softResetBlocks

/-- R181: RESET asserted: every piece of state holds its power-on value, every cell takes a new arbitrary value, and
the arbiter holds no request. Released: the part begins to operate. The queue of waiting commands is not the part's.
DESIGN CHOICE (log entries 1, 19, 23). -/
def State.driveReset (s : State) (asserted : Bool) : State :=
  if asserted then
    { State.reset with
      inReset := true
      powerOns := s.powerOns + 1
      freeCount := s.freeCount
      pending := s.pending }
  else { s with inReset := false }

/-- POWER_ON_RESET (R181). -/
def execPowerOnReset (asserted : Bool) (s : State) : Host.Outcome State Fault Refusal :=
  .next (s.driveReset asserted)

end Sys2Proof.Machine
end

