-- ==== Sys2Proof/Machine/WorkQueue.lean ====
section
/-! DEFINITION. The execution of work items (ch 2, sections 2.3 and 2.4; ch 5, section 5.4; ch 6, section 6.1): START,
STOP, READ and WRITE at the head of a port's work queue. -/

namespace Sys2Proof.Machine

/-- R93: execution goes on in WAIT_SYNC, LISTENING and TURN_WAIT. A port in OFF holds only items finishing a cell in
hand, and one in RESPONDING has an empty queue. -/
def LinkState.executes : LinkState → Bool
  | .off => false
  | .waitSync => true
  | .listening => true
  | .turnWait => true
  | .responding => false

/-- R93: the item of a kind that stands READY at the head of a port's work queue, where the port executes. With none
the event changes nothing: DESIGN CHOICE (log entry 3). -/
def State.readyHead (s : State) (p : Port) (kind : ItemKind) : Option WorkItem :=
  match (s.port p).queue with
  | [] => none
  | i :: _ =>
    if (s.port p).link.executes ∧ i.kind = kind ∧ i.state = .ready then some i else none

/-- A fault an item raises when it is validated, with the item's own capture (R29, R100). -/
def State.raiseForItem (s : State) (p : Port) (i : WorkItem) (kind : FaultKind) : State :=
  s.raise (s.contextClaim kind p i.stream i.capture)

/-! ### START (R29 to R33) -/

/-- R31, R33: the copy a START takes. -/
def Aperture.copyFor (a : Aperture) (n : ApIndex) (granted : Rights) : Copy where
  aperture := n
  geometry := a.geometry
  granted := granted
  generation := a.generation

/-- R31, R33: a START reloads the context from its binding. A RETIRING context stays RETIRING; any other becomes
OPEN. -/
def State.loadContext (s : State) (p : Port) (t : Stream) (b : Binding) : State :=
  ((s.endWalk p t).setContext p t
    { state := if (s.context p t).state = .retiring then .retiring else .opened
      copy := some ((s.aperture b.aperture).copyFor b.aperture (b.rights.inter (s.aperture b.aperture).rights))
      endIndicator := false
      cursor := 0
      passes := 0 })

/-- R32, R33: whether a resume finds its walk: the context is OPEN, ENDED or RETIRING, its index is the slot's and its
copy is of the entry's current generation. -/
def State.canResume (s : State) (p : Port) (t : Stream) (b : Binding) : Bool :=
  match (s.context p t).state, (s.context p t).copy with
  | .opened, some k => k.aperture == b.aperture && k.generation == (s.aperture b.aperture).generation
  | .ended, some k => k.aperture == b.aperture && k.generation == (s.aperture b.aperture).generation
  | .retiring, some k => k.aperture == b.aperture && k.generation == (s.aperture b.aperture).generation
  | _, _ => false

/-- R29, R30: the effect of a START: parameter, binding and granted rights are checked in this order, then it loads or
resumes. RESUME_LOST carries what the context held before the reload (R32). -/
def State.startEffect (s : State) (p : Port) (i : WorkItem) : State :=
  if i.parameter ≠ 0 ∧ i.parameter ≠ 1 then s.raiseForItem p i .badParameter
  else
    match s.slot p i.stream with
    | none => s.raiseForItem p i .notBound
    | some b =>
      if (b.rights.inter (s.aperture b.aperture).rights).isEmpty then s.raiseForItem p i .rights
      else if i.parameter = 0 then s.loadContext p i.stream b
      else if s.canResume p i.stream b then s
      else (s.loadContext p i.stream b).raise (s.contextClaim .resumeLost p i.stream i.capture)

/-! ### STOP (R29, R34) -/

/-- R28, R34: the context takes the EMPTY condition. -/
def State.emptyContext (s : State) (p : Port) (t : Stream) : State :=
  (s.endWalk p t).setContext p t HeadContext.reset

/-- R29, R34: the effect of a STOP. -/
def State.stopEffect (s : State) (p : Port) (i : WorkItem) : State :=
  match s.slot p i.stream with
  | none => s.raiseForItem p i .notBound
  | some _ =>
    match (s.context p i.stream).state with
    | .empty => s.raiseForItem p i .rights
    | .opened => s.emptyContext p i.stream
    | .ended => s.emptyContext p i.stream
    | .retiring => s
    | .retired => s.raiseForItem p i .retired

/-! ### READ (R29, R102) -/

/-- The granted rights of the copy a context holds. -/
def HeadContext.granted (c : HeadContext) : Rights :=
  match c.copy with
  | none => Rights.nothing
  | some k => k.granted

/-- R102, R103: a READ that proceeds joins the return queue, raises OVERRUN when that is full, and joins nothing while
the port is SUSPENDED. -/
def State.joinReturns (s : State) (p : Port) (i : WorkItem) : State :=
  match (s.port p).mode with
  | .suspended => s
  | .running =>
    if (s.port p).returns.length < 4 then
      s.setPort p
        { s.port p with returns := (s.port p).returns ++ [⟨i.stream, i.parameter.toNat, i.capture⟩] }
    else s.raiseForItem p i .overrun

/-- R29, R102: the effect of a READ. -/
def State.readEffect (s : State) (p : Port) (i : WorkItem) : State :=
  match s.slot p i.stream with
  | none => s.raiseForItem p i .notBound
  | some _ =>
    match (s.context p i.stream).state with
    | .empty => s.raiseForItem p i .rights
    | .opened => if (s.context p i.stream).granted.read then s.joinReturns p i else s.raiseForItem p i .rights
    | .ended => s.raiseForItem p i .apertureEnd
    | .retiring => s.raiseForItem p i .retired
    | .retired => s.raiseForItem p i .retired

/-! ### WRITE (R29, R94) -/

/-- R29, R94: the fault a WRITE is refused with, if any. -/
def State.writeRefusal (s : State) (p : Port) (t : Stream) : Option FaultKind :=
  match s.slot p t with
  | none => some .notBound
  | some _ =>
    match (s.context p t).state with
    | .empty => some .rights
    | .opened => if (s.context p t).granted.write then none else some .rights
    | .ended => some .apertureEnd
    | .retiring =>
      if (s.context p t).endIndicator then some .apertureEnd
      else if (s.context p t).granted.write then none else some .rights
    | .retired => some .retired

/-- R94, R95: a WRITE that proceeds becomes COMMITTING and posts its first request. -/
def State.beginCommit (s : State) (p : Port) : State :=
  (s.setPort p
    { s.port p with queue := setHeadState (s.port p).queue (.committing 0 false false false) }).continueCommit p

/-- R31: START at the head of the work queue is executed and removed. -/
def State.executeStart (s : State) (p : Port) : State :=
  match s.readyHead p .start with
  | none => s
  | some i => (s.startEffect p i).finishHead p

/-- R34: STOP. -/
def State.executeStop (s : State) (p : Port) : State :=
  match s.readyHead p .stop with
  | none => s
  | some i => (s.stopEffect p i).finishHead p

/-- R102: READ. -/
def State.executeRead (s : State) (p : Port) : State :=
  match s.readyHead p .read with
  | none => s
  | some i => (s.readEffect p i).finishHead p

/-- R94: WRITE: refused and removed, or made COMMITTING. -/
def State.executeWrite (s : State) (p : Port) : State :=
  match s.readyHead p .write with
  | none => s
  | some i =>
    match s.writeRefusal p i.stream with
    | some kind => (s.raiseForItem p i kind).finishHead p
    | none => s.beginCommit p

/-- START_ITEM (R31). -/
def execStartItem (p : Port) (s : State) : Host.Outcome State Fault Refusal :=
  operate s fun s => s.executeStart p

/-- STOP_ITEM (R34). -/
def execStopItem (p : Port) (s : State) : Host.Outcome State Fault Refusal :=
  operate s fun s => s.executeStop p

/-- READ_ITEM (R102). -/
def execReadItem (p : Port) (s : State) : Host.Outcome State Fault Refusal :=
  operate s fun s => s.executeRead p

/-- WRITE_ITEM (R94). -/
def execWriteItem (p : Port) (s : State) : Host.Outcome State Fault Refusal :=
  operate s fun s => s.executeWrite p

end Sys2Proof.Machine
end

