-- ==== Sys2Proof/Machine/Response.lean ====
section
/-! DEFINITION. Turnaround and responses (ch 6): entry into RESPONDING, the serving of the return queue, REPORT, ACK and
the close. -/

namespace Sys2Proof.Machine

/-- R65: the packet the part sends with a header and, for a RETURN, its cells and their checksum. The check byte's bit 7
is sent as 0. -/
def packetSent (header : HeaderBits) (cells : List Word) (checksum : Option Word) : SentPacket :=
  ⟨header, (checkBits header).zeroExtend 8, cells, checksum⟩

/-- R65: the bytes of a packet in the order sent. -/
def SentPacket.bytes (k : SentPacket) : List Byte :=
  [k.header.extractLsb' 0 8, k.header.extractLsb' 8 8, k.header.extractLsb' 16 8, k.header.extractLsb' 24 8, k.check] ++
    k.cells.flatMap (fun v => [lowByte v, highByte v]) ++
    (match k.checksum with
     | some c => [lowByte c, highByte c]
     | none => [])

/-- R65, R82: the header of the port's next packet, with the response sequence counter in its tag. -/
def PortState.nextHeader (x : PortState) (type : Byte) (stream : Stream) (parameter : Word) : HeaderBits :=
  headerOf type stream x.responseCounter parameter

/-- R80, R114: the snapshot of the report flags; SUSPENDED is included while the port is SUSPENDED. -/
def PortState.takeSnapshot (x : PortState) : BitVec 16 :=
  match x.mode with
  | .running => x.reportFlags
  | .suspended => withReportFlag x.reportFlags .suspended

/-- R114, R115: the RETURNS phase ends: the snapshot is taken. With no flag in it and a RETURN begun in this burst
there is nothing more to send, and the close follows. DESIGN CHOICE (log entry 16): an end that carries no packet is
part of the event before it. -/
def State.endReturns (s : State) (p : Port) : State :=
  s.setPort p
    { s.port p with
      builder := { (s.port p).builder with
        snapshot := some (s.port p).takeSnapshot
        phase := if (s.port p).takeSnapshot = 0 ∧ (s.port p).builder.packetSent then .closing else .report } }

/-- R109: if the builder finds the return queue empty and no RETURN being sent, the RETURNS phase ends. -/
def State.endReturnsIfDone (s : State) (p : Port) : State :=
  if (s.port p).builder.phase = .returns ∧ (s.port p).builder.current = none ∧ (s.port p).returns = [] then
    s.endReturns p
  else s

/-- R73, R108: a port in TURN_WAIT with an empty work queue enters RESPONDING and sends a start symbol. -/
def State.startResponse (s : State) (p : Port) : State :=
  if (s.port p).link = .turnWait ∧ (s.port p).queue = [] then
    (s.setPort p
      { s.port p with
        link := .responding
        builder := ⟨.returns, none, false, none⟩
        line := ⟨.sending, []⟩ }).endReturnsIfDone p
  else s

/-- R109: what the recheck of a taken entry finds. -/
def State.entryRefusal (s : State) (p : Port) (t : Stream) : Option FaultKind :=
  match s.slot p t with
  | none => some .notBound
  | some _ =>
    match (s.context p t).state with
    | .empty => some .rights
    | .opened => if (s.context p t).granted.read then none else some .rights
    | .ended => some .apertureEnd
    | .retiring => some .retired
    | .retired => some .retired

/-- R111: the cells remaining under a STOP copy. -/
def HeadContext.remaining (c : HeadContext) : Nat :=
  match c.copy with
  | none => 0
  | some k => k.geometry.size - c.cursor

/-- Whether a context's copy has the STOP policy. -/
def HeadContext.isStop (c : HeadContext) : Bool :=
  match c.copy with
  | none => false
  | some k => k.geometry.policy == .stop

/-- R111: the number of cells sent for an entry. -/
def HeadContext.sizeEntry (c : HeadContext) (count limit : Nat) : Nat :=
  if c.isStop then min (min count limit) c.remaining else min count limit

/-- R111: the faults of a sizing: TRUNCATED when it is below the count, then APERTURE_END when the end of a STOP copy had
a part in the shortfall. -/
def State.sizingClaims (s : State) (p : Port) (e : ReturnEntry) (n : Nat) : List Claim :=
  if n < e.count then
    if (s.context p e.stream).isStop ∧ n = (s.context p e.stream).remaining then
      [s.contextClaim .truncated p e.stream e.capture, s.contextClaim .apertureEnd p e.stream e.capture]
    else [s.contextClaim .truncated p e.stream e.capture]
  else []

/-- R112: the builder begins a RETURN of `n` cells: its header takes the response sequence counter, which advances. -/
def State.beginReturn (s : State) (p : Port) (t : Stream) (n : Nat) : State :=
  (s.setPort p
    { s.port p with
      responseCounter := (s.port p).responseCounter + 1
      builder := { (s.port p).builder with
        current := some ⟨t, n, (s.port p).nextHeader returnCode t (BitVec.ofNat 16 n), [], false⟩
        packetSent := true } }).continueReturn p

/-- R75, R76, R111: the entry has been sized and the faults of its sizing raised. A RUNNING port begins the RETURN. A
port that one of those faults has suspended begins none: the suspension was taken first, and the builder finds the
emptied return queue. DEDUCED (log entry 12). -/
def State.beginSized (s : State) (p : Port) (t : Stream) (n : Nat) : State :=
  match (s.port p).mode with
  | .running => s.beginReturn p t n
  | .suspended => s.endReturnsIfDone p

/-- R109 to R112: an entry taken from the head of the return queue is dropped with its fault, or sized and served. -/
def State.serveEntry (s : State) (p : Port) (e : ReturnEntry) : State :=
  match s.entryRefusal p e.stream with
  | some kind => (s.raise (s.contextClaim kind p e.stream e.capture)).endReturnsIfDone p
  | none =>
    let n := (s.context p e.stream).sizeEntry e.count (s.port p).returnLimit
    (s.raiseAll (s.sizingClaims p e n)).beginSized p e.stream n

/-- R109: in the RETURNS phase with no RETURN being sent, the builder takes the head entry, or finds none. -/
def State.takeEntry (s : State) (p : Port) : State :=
  if (s.port p).builder.phase = .returns ∧ (s.port p).builder.current = none then
    match (s.port p).returns with
    | [] => s.endReturns p
    | e :: rest => (s.setPort p { s.port p with returns := rest }).serveEntry p e
  else s

/-- R112: the last checksum byte of a RETURN has been sent, when all its cells are in the packet. -/
def State.endReturn (s : State) (p : Port) : State :=
  match (s.port p).builder.current with
  | none => s
  | some r =>
    if r.cells.length < r.length then s
    else
      let s1 := s.unitEnded p r.stream .drained
      (s1.setPort p
        { s1.port p with
          builder := { (s1.port p).builder with current := none }
          line := { (s1.port p).line with
            packets := (s1.port p).line.packets ++ [packetSent r.header r.cells (some (sumCells r.cells))] } }).endReturnsIfDone p

/-- R65, R82, R114, R115: a short packet of the part is sent: its header takes the response sequence counter, which
advances, and the builder goes on to the close. -/
def State.sendShort (s : State) (p : Port) (type : Byte) (parameter : Word) : State :=
  s.setPort p
    { s.port p with
      responseCounter := (s.port p).responseCounter + 1
      builder := { (s.port p).builder with packetSent := true, phase := .closing }
      line := { (s.port p).line with
        packets := (s.port p).line.packets ++ [packetSent ((s.port p).nextHeader type 0 parameter) [] none] } }

/-- R114: in the report phase with a flag in the snapshot, the REPORT carries the snapshot. -/
def State.sendReport (s : State) (p : Port) : State :=
  match (s.port p).builder.phase, (s.port p).builder.snapshot with
  | .report, some flags => if flags = 0 then s else s.sendShort p reportCode flags
  | _, _ => s

/-- R115: after the report phase with no packet sent in this burst, the ACK carries the ACK count. -/
def State.sendAck (s : State) (p : Port) : State :=
  match (s.port p).builder.phase, (s.port p).builder.snapshot with
  | .report, some flags =>
    if flags = 0 ∧ (s.port p).builder.packetSent = false then
      s.sendShort p ackCode (BitVec.ofNat 16 (s.port p).ackCount)
    else s
  | _, _ => s

/-- R80, R116: the end symbol has been sent: the snapshotted flags clear, the ACK count becomes 0, the builder is IDLE
and the port LISTENING. -/
def State.sendEnd (s : State) (p : Port) : State :=
  if (s.port p).builder.phase = .closing then
    s.setPort p
      { s.port p with
        link := .listening
        reportFlags := (s.port p).reportFlags &&& ~~~ ((s.port p).builder.snapshot.getD 0)
        ackCount := 0
        builder := Builder.idle
        line := { (s.port p).line with status := .complete } }
  else s

/-- RESPONSE_START (R108). -/
def execResponseStart (p : Port) (s : State) : Host.Outcome State Fault Refusal :=
  operate s fun s => s.startResponse p

/-- RETURN_ENTRY_TAKE (R109). -/
def execReturnEntryTake (p : Port) (s : State) : Host.Outcome State Fault Refusal :=
  operate s fun s => s.takeEntry p

/-- RETURN_END (R112). -/
def execReturnEnd (p : Port) (s : State) : Host.Outcome State Fault Refusal :=
  operate s fun s => s.endReturn p

/-- REPORT_SENT (R114). -/
def execReportSent (p : Port) (s : State) : Host.Outcome State Fault Refusal :=
  operate s fun s => s.sendReport p

/-- ACK_SENT (R115). -/
def execAckSent (p : Port) (s : State) : Host.Outcome State Fault Refusal :=
  operate s fun s => s.sendAck p

/-- END_SYMBOL_SENT (R116). -/
def execEndSymbolSent (p : Port) (s : State) : Host.Outcome State Fault Refusal :=
  operate s fun s => s.sendEnd p

end Sys2Proof.Machine
end

