-- ==== Sys2Proof/Machine/Retire.lean ====
section
/-! DEFINITION. Retirement (ch 8): the affected set, the take, the abort, drain and abort mode, and the expiry of the
drain timer. -/

namespace Sys2Proof.Machine

/-- What a RETIRE names (R131, R137). -/
inductive Scope where
  | all
  | port (p : Port)
  | aperture (n : ApIndex)
  | binding (p : Port) (t : Stream)
deriving DecidableEq, Repr

/-- R131: the scope and target of the staged arguments, or the refusal. -/
def retireScope (a : Bank 4 Word) : Except ResultCode Scope :=
  match argScope a with
  | 0 => .ok .all
  | 1 =>
    match portOf (argPort a) with
    | some p => .ok (.port p)
    | none => .error .badIndex
  | 2 =>
    match indexOf (argIndex a) with
    | some n => .ok (.aperture n)
    | none => .error .badIndex
  | 3 =>
    match portOf (argPort a), portOf (argStream a) with
    | some p, some t => .ok (.binding p t)
    | _, _ => .error .badIndex
  | _ => .error .badScope

/-- R137: whether a head context is a candidate of a scope. -/
def Scope.coversHead (x : Scope) (p : Port) (t : Stream) (copy : Option Copy) : Bool :=
  match x with
  | .all => true
  | .port q => p == q
  | .aperture n =>
    match copy with
    | some k => k.aperture == n
    | none => false
  | .binding q u => p == q && t == u

/-- R137: whether the host context is a candidate of a scope. -/
def Scope.coversHost (x : Scope) (copy : Option Copy) : Bool :=
  match x with
  | .all => true
  | .port _ => false
  | .aperture n =>
    match copy with
    | some k => k.aperture == n
    | none => false
  | .binding _ _ => false

/-- R137: the head contexts of a scope that are OPEN or ENDED. -/
def State.affectedHeads (s : State) (x : Scope) : List (Port × Stream) :=
  allHeads.filter fun h =>
    x.coversHead h.1 h.2 (s.context h.1 h.2).copy &&
      ((s.context h.1 h.2).state == .opened || (s.context h.1 h.2).state == .ended)

/-- R137: whether the host context is affected. -/
def State.hostAffected (s : State) (x : Scope) : Bool :=
  x.coversHost s.hostContext.copy && (s.hostContext.state == .opened || s.hostContext.state == .ended)

/-- R137: the affected set. -/
def State.affectedSet (s : State) (x : Scope) : List ContextId :=
  (s.affectedHeads x).map (fun h => ContextId.head h.1 h.2) ++ (if s.hostAffected x then [ContextId.host] else [])

/-- R35, R138: a head context becomes RETIRING. -/
def HeadContext.startRetiring (c : HeadContext) : HeadContext :=
  { c with state := .retiring, endIndicator := c.state == .ended }

/-- R35, R138: the host context becomes RETIRED. -/
def HostContext.retire (c : HostContext) : HostContext := { c with state := .retired, cursor := 0 }

/-- R138: the claims of the return entries of affected streams on a port, in the order of the entries. -/
def State.takeClaims (s : State) (heads : List (Port × Stream)) (p : Port) : List Claim :=
  ((s.port p).returns.filter (fun e => heads.contains (p, e.stream))).map
    fun e => s.contextClaim .retired p e.stream e.capture

/-- R138: the return entries of affected streams leave a port's return queue. -/
def State.removeEntries (s : State) (heads : List (Port × Stream)) (p : Port) : State :=
  s.setPort p
    { s.port p with returns := (s.port p).returns.filter (fun e => !heads.contains (p, e.stream)) }

/-- R135, R138: the host context becomes RETIRED if it is affected, and the counts start from the affected set. -/
def State.startCounts (s : State) (affected : List ContextId) : State :=
  { s with
    hostContext := if affected.contains .host then s.hostContext.retire else s.hostContext
    retire := { s.retire with affected := affected, retired := affected.length, drained := 0, aborted := 0 } }

/-- R138: an affected head context becomes RETIRING. -/
def State.startRetiring (s : State) (h : Port × Stream) : State :=
  s.setContext h.1 h.2 (s.context h.1 h.2).startRetiring

/-- R135, R138: the take of a RETIRE: the affected head contexts become RETIRING, the host context RETIRED if
affected, the affected return entries are removed and each raises RETIRED, and the counts start. DESIGN CHOICE (log
entry 18): the order of the claims. -/
def State.retireTake (s : State) (x : Scope) : State :=
  let heads := s.affectedHeads x
  let s1 := heads.foldl State.startRetiring s
  let s2 := allPorts.foldl (fun s p => s.removeEntries heads p) s1
  (s2.startCounts (s.affectedSet x)).raiseAll (allPorts.flatMap (s.takeClaims heads))

/-- R118: the cells of a RETURN that an abort cuts short: those whose low byte has left keep their values, every other
one is $0000. How many have left is a free value, at most the cells read (log entry 6). -/
def CurrentReturn.zeroFill (r : CurrentReturn) (onLine : Nat) : CurrentReturn :=
  let kept := r.cells.take (min onLine r.cells.length)
  { r with cells := kept ++ List.replicate (r.length - kept.length) 0, zeroFilled := true }

/-- A free value has been drawn (log entry 6). -/
def State.drawFree (s : State) : State := { s with freeCount := s.freeCount + 1 }

/-- R118, R140: a RETURN in transmission for the context is zero-filled: its unit counts as aborted, and the value of
its outstanding read is no longer wanted. -/
def State.zeroFillReturn (s : State) (p : Port) (r : CurrentReturn) : State :=
  let s1 := (s.unitEnded p r.stream .aborted).dropRequestValue p
  (s1.setPort p
    { s1.port p with
      builder := { (s1.port p).builder with
        current := some (r.zeroFill (Config.cellsOnLine s.freeCount)) } }).drawFree

/-- The RETURN being sent for a stream that retirement has not yet cut short. -/
def State.liveReturn (s : State) (p : Port) (t : Stream) : Option CurrentReturn :=
  match (s.port p).builder.current with
  | none => none
  | some r => if r.stream = t ∧ r.zeroFilled = false then some r else none

/-- R140: the abort of one RETIRING head context. -/
def State.abortContext (s : State) (h : Port × Stream) : State :=
  if (s.context h.1 h.2).state = .retiring then
    let s1 :=
      if (s.port h.1).queue.any (fun i => i.isReceiving && i.stream == h.2) then s.skipReceiving h.1 else s
    let s2 := (s1.removeItems h.1 (fun i => i.stream == h.2) (fun i => !i.isCounted)).endWalk h.1 h.2
    match s2.liveReturn h.1 h.2 with
    | none => s2.setContext h.1 h.2 (s2.context h.1 h.2).retire
    | some r =>
      let s3 := s2.zeroFillReturn h.1 r
      (s3.setContext h.1 h.2 (s3.context h.1 h.2).retire).raise (s.contextClaim .retired h.1 h.2 r.header)
  else s

/-- R140: the abort of every head context that is RETIRING. -/
def State.abortRetiring (s : State) : State := allHeads.foldl State.abortContext s

/-- R136, R142: the engine enters DRAINING, the unit becomes BUSY, and the drain timer starts unless the limit is 0. -/
def State.beginDrain (s : State) : State :=
  { s with
    command := { s.command with busy := true }
    retire := { s.retire with
      phase := .draining
      timer := if s.retire.drainLimit = 0 then none else some (s.retire.drainLimit.toNat * 16) } }

/-- R131, R135 to R142: RETIRE. Abort mode completes in the event of its take. Drain mode makes the unit BUSY with the
drain timer running; the end of the same event settles what has no work to wait for (R142, R144). DESIGN CHOICE (log
entry 27): a RETIRE that is refused or affects no context leaves the engine's counts as the last one left them. -/
def State.retireCommand (s : State) : State :=
  match retireScope s.command.staged with
  | .error code => s.complete code
  | .ok x =>
    if s.affectedSet x = [] then s.complete .done
    else if argDrain s.command.staged then (s.retireTake x).beginDrain
    else ((s.retireTake x).abortRetiring).completeRetire .done

/-- R147: the drain timer expires: what is still RETIRING is aborted and the command completes with DONE_FORCED. Without
a running timer there is nothing to expire. -/
def State.expireDrain (s : State) : State :=
  match s.retire.phase, s.retire.timer with
  | .draining, some _ => s.abortRetiring.completeRetire .doneForced
  | _, _ => s

/-- DRAIN_TIMER_EXPIRY (R147). -/
def execDrainTimerExpiry (s : State) : Host.Outcome State Fault Refusal :=
  operate s fun s => s.expireDrain

end Sys2Proof.Machine
end

