-- ==== Sys2Proof/Machine/Commands.lean ====
section
/-! DEFINITION. The command unit (ch 7): submission, the commands against the tables, contexts and ports, and the
refusals of each in the order of its checks. -/

namespace Sys2Proof.Machine

/-! ### DEFINE_APERTURE and CLEAR_APERTURE (R12, R13, R15) -/

/-- R12: the checks of DEFINE_APERTURE in order: the entry, or the refusal. -/
def judgeDefine (a : Bank 4 Word) : Except ResultCode ApIndex :=
  match indexOf (defineIndex a) with
  | none => .error .badIndex
  | some n =>
    if ¬ (defineFirstColumn a ≤ 1023 ∧ defineLastColumn a ≤ 1023 ∧ defineFirstColumn a ≤ defineLastColumn a) then
      .error .badGeometry
    else if (defineRights a).isEmpty then .error .badRights
    else if ¬ ((defineGeometry a).mark.toNat ≤ (defineGeometry a).lineCount) then .error .badMark
    else .ok n

/-- R13: entry `n` is defined: its fields take the staged values, its generation advances, its mark flag clears. -/
def State.define (s : State) (n : ApIndex) : State :=
  { s with
    apertures := s.apertures.set n
      { isDefined := true
        geometry := defineGeometry s.command.staged
        rights := defineRights s.command.staged
        generation := (s.aperture n).generation + 1 }
    marks := withoutMark s.marks n }

/-- R12, R13: DEFINE_APERTURE. -/
def State.defineCommand (s : State) : State :=
  match judgeDefine s.command.staged with
  | .error code => s.complete code
  | .ok n => (s.define n).complete .done

/-- R15: whether a binding slot names entry `n`. -/
def State.isBound (s : State) (n : ApIndex) : Bool :=
  allHeads.any fun h =>
    match s.slot h.1 h.2 with
    | some b => b.aperture == n
    | none => false

/-- R15: whether the host context is OPEN or ENDED with a copy of entry `n`. -/
def State.hostHolds (s : State) (n : ApIndex) : Bool :=
  (s.hostContext.state == .opened || s.hostContext.state == .ended) &&
    (match s.hostContext.copy with
     | some k => k.aperture == n
     | none => false)

/-- R15: CLEAR_APERTURE. Only the state of the entry changes. -/
def State.clearCommand (s : State) : State :=
  match indexOf (argIndex s.command.staged) with
  | none => s.complete .badIndex
  | some n =>
    if s.isBound n ∨ s.hostHolds n then s.complete .inUse
    else (s.setAperture n { s.aperture n with isDefined := false }).complete .done

/-! ### BIND and UNBIND (R22, R23) -/

/-- R22: BIND. -/
def State.bindCommand (s : State) : State :=
  match portOf (argPort s.command.staged), portOf (argStream s.command.staged), indexOf (argIndex s.command.staged) with
  | some p, some t, some n =>
    if ¬ (s.aperture n).isDefined then s.complete .noAperture
    else if (s.slot p t).isSome then s.complete .alreadyBound
    else if (argRights s.command.staged).isEmpty ∨ ¬ (argRights s.command.staged).within (s.aperture n).rights then
      s.complete .badRights
    else (s.setSlot p t (some ⟨n, argRights s.command.staged⟩)).complete .done
  | _, _, _ => s.complete .badIndex

/-- R23, R189: an UNBIND that passes its checks: the slot becomes empty and the context takes the EMPTY condition. -/
def State.unbindSlot (s : State) (p : Port) (t : Stream) : State :=
  ((s.endWalk p t).setContext p t HeadContext.reset).setSlot p t none

/-- R23: UNBIND. -/
def State.unbindCommand (s : State) : State :=
  match portOf (argPort s.command.staged), portOf (argStream s.command.staged) with
  | some p, some t =>
    match s.slot p t with
    | none => s.complete .notBound
    | some _ =>
      match (s.context p t).state with
      | .empty => (s.unbindSlot p t).complete .done
      | .opened => s.complete .contextLive
      | .ended => s.complete .contextLive
      | .retiring => s.complete .contextLive
      | .retired => (s.unbindSlot p t).complete .done
  | _, _ => s.complete .badIndex

/-! ### Port commands (R77, R78, R132) -/

/-- R132: SUSPEND_PORT. -/
def State.suspendCommand (s : State) : State :=
  match portOf (argPort s.command.staged) with
  | none => s.complete .badIndex
  | some p => (s.suspendByCommand p).complete .done

/-- R77: RESUME_PORT. -/
def State.resumeCommand (s : State) : State :=
  match portOf (argPort s.command.staged) with
  | none => s.complete .badIndex
  | some p =>
    match (s.port p).mode with
    | .running => s.complete .notSuspended
    | .suspended => (s.setPort p { s.port p with mode := .running }).complete .done

/-- R78: RESET_PORT. -/
def State.resetPortCommand (s : State) : State :=
  match portOf (argPort s.command.staged) with
  | none => s.complete .badIndex
  | some p => (s.resetOnePort p).complete .done

/-! ### The host context (R132, R152, R153) -/

/-- R152: the host context loaded from an entry. -/
def Aperture.openFor (a : Aperture) (n : ApIndex) : HostContext where
  state := .opened
  copy := some ⟨n, a.geometry, a.rights, a.generation⟩
  cursor := 0
  passes := 0

/-- R132, R152: HOST_OPEN. -/
def State.hostOpenCommand (s : State) : State :=
  match indexOf (argIndex s.command.staged) with
  | none => s.complete .badIndex
  | some n =>
    if ¬ (s.aperture n).isDefined then s.complete .noAperture
    else (s.setHostContext ((s.aperture n).openFor n)).complete .done

/-- R153: the host context closed: cursor 0, the rest kept. -/
def HostContext.close (c : HostContext) : HostContext :=
  match c.state with
  | .closed => c
  | .opened => { c with state := .closed, cursor := 0 }
  | .ended => { c with state := .closed, cursor := 0 }
  | .retired => { c with state := .closed, cursor := 0 }

/-- R132, R153: HOST_CLOSE. -/
def State.hostCloseCommand (s : State) : State :=
  (s.setHostContext s.hostContext.close).complete .done

/-! ### Submission (R124, R126, R128) -/

/-- R124: taking a write to CMD. -/
def State.takeCommand (s : State) (v : Word) : State :=
  { s with
    command := { s.command with
      lastOpcode := v
      staged := s.command.args
      collision := false
      result := .none
      details := Bank.fill 3 0 } }

/-- The command named by an opcode executes against the state at its take (R124, R128). -/
def State.runCommand (s : State) (c : Option Command) : State :=
  match c with
  | none => s.complete .badCommand
  | some .defineAperture => s.defineCommand
  | some .clearAperture => s.clearCommand
  | some .bind => s.bindCommand
  | some .unbind => s.unbindCommand
  | some .retire => s.retireCommand
  | some .suspendPort => s.suspendCommand
  | some .resumePort => s.resumeCommand
  | some .resetPort => s.resetPortCommand
  | some .hostOpen => s.hostOpenCommand
  | some .hostClose => s.hostCloseCommand

/-- R126: a write to CMD collides: the collision flag is set. -/
def State.noteCollision (s : State) : State := { s with command := { s.command with collision := true } }

/-- R124, R126: a write to CMD. While the unit is BUSY it sets the collision flag and nothing else; otherwise it is taken
and its command executes. -/
def State.writeCmd (s : State) (v : Word) : State :=
  if s.command.busy then s.noteCollision
  else (s.takeCommand v).runCommand (commandOf v)

end Sys2Proof.Machine
end

