-- ==== Sys2Proof/Machine/HostData.lean ====
section
/-! DEFINITION. Host data access (ch 9): the judging of a HOST_DATA access, its request, and its refusal. -/

namespace Sys2Proof.Machine

/-- R156: the fault a HOST_DATA access is refused with, if any: the state is judged before the rights. -/
def HostContext.refusal (c : HostContext) (isWrite : Bool) : Option FaultKind :=
  match c.state with
  | .closed => some .notBound
  | .retired => some .retired
  | .ended => some .apertureEnd
  | .opened =>
    match c.copy with
    | none => some .rights
    | some k => if (if isWrite then k.granted.write else k.granted.read) then none else some .rights

/-- R156: the claim of a refused access: port H, no stream, no packet, and the copy's index and cursor if one is held. -/
def State.hostClaim (s : State) (kind : FaultKind) : Claim :=
  ⟨kind, .host, none, s.hostContext.walkPoint, none⟩

/-- R154, R155: HA posts the request for the cell at the host context's cursor. The value of a read whose strobe the
host releases under WAIT is not wanted (R180). -/
def State.postHost (s : State) (access : Access) (wanted : Bool) : State :=
  match s.hostContext.copy with
  | none => s
  | some k =>
    { s with
      arbiter := { s.arbiter with
        hostRequest := some { requestAt access none k s.hostContext.cursor with wanted := wanted } } }

/-- R154: a host write to HOST_DATA is posted, or dropped with its fault. -/
def State.hostWrite (s : State) (v : Word) : State :=
  match s.hostContext.refusal true with
  | some kind => s.raise (s.hostClaim kind)
  | none => s.postHost (.write v) true

/-- The data lines carry the value of a read cycle (R180). -/
def State.drive (s : State) (v : Word) : State := { s with bus := { s.bus with readData := some v } }

/-- R155: a host read of HOST_DATA is posted, or refused, returning $0000. -/
def State.hostRead (s : State) (released : Bool) : State :=
  match s.hostContext.refusal false with
  | some kind => (s.raise (s.hostClaim kind)).drive 0
  | none => s.postHost .read (!released)

/-- HA's request is no longer outstanding and no grant is being performed. -/
def State.releaseHost (s : State) : State :=
  { s with arbiter := { s.arbiter with granting := none, hostRequest := none } }

/-- R36, R158: the host context's cursor advances by one cell. -/
def State.advanceHost (s : State) : State :=
  if s.hostContext.state = .opened then s.setHostContext s.hostContext.advance else s

/-- R154, R155, R158: the grant of HA's request has been performed: a write stores its value and makes the mark test, a
read is driven on the data lines unless its strobe has been released (R180), and the host context's cursor advances. A
cycle held behind the read shows its strobe released. DEDUCED (log entry 17). -/
def State.performHostAccess (s : State) (r : Request) : State :=
  match r.access with
  | .write v => ((s.releaseHost.writeCell r.row r.column v).markFor r).advanceHost
  | .read =>
    if r.wanted ∧ s.bus.held = [] then (s.releaseHost.drive (s.cell r.row r.column)).advanceHost
    else s.releaseHost.advanceHost

end Sys2Proof.Machine
end

