-- ==== Sys2Proof/Machine/Window.lean ====
section
/-! DEFINITION. The register window (ch 11): what each register reads, what a read or write cycle does at it, the holding
of cycles with WAIT behind a HOST_DATA request, and the command rows that are host bus cycles. -/

namespace Sys2Proof.Machine

/-! ### What the registers read (R183, R185, R187) -/

/-- The low 16 bits of a cursor or offset (R41, R185). -/
def lowHalf (n : Nat) : Word := BitVec.ofNat 16 n

/-- Bits 18:16 of a cursor or offset (R41, R185). -/
def highBits (n : Nat) : BitVec 3 := BitVec.ofNat 3 (n / 65536)

/-- R185: PORT_STATE. -/
def State.readPortState (s : State) : Word :=
  allPorts.foldl (fun v p =>
    v ||| Word.place (4 * p.val) (s.port p).link.number |||
      Word.bit (4 * p.val + 3) ((s.port p).mode == .suspended)) 0

/-- R182: CONTROL: the enable bits; SOFT_RESET reads 0. -/
def State.readControl (s : State) : Word :=
  allPorts.foldl (fun v p => v ||| Word.bit p.val (s.port p).enabled) 0

/-- R187: the FAULT window's registers of the record at the head of the queue. -/
def FaultRecord.info (r : FaultRecord) : Word :=
  Word.place 0 r.claim.kind.number.val ||| Word.place 4 r.claim.source.number.val |||
    Word.place 8 (match r.claim.stream with
      | some t => t.val
      | none => 0) |||
    Word.bit 10 r.claim.stream.isSome ||| Word.bit 11 r.claim.walk.isSome ||| Word.bit 12 r.claim.packet.isSome

/-- R187: FAULT_REPEAT: repeat count and packet type. -/
def FaultRecord.repeatWord (r : FaultRecord) : Word :=
  Word.place 0 r.repeats ||| Word.place 8 (match r.claim.packet with
    | some k => k.type.toNat
    | none => 0)

/-- R187: FAULT_APERTURE. -/
def FaultRecord.apertureWord (r : FaultRecord) : Word :=
  match r.claim.walk with
  | some w => Word.place 0 w.aperture.val
  | none => 0

/-- R187: FAULT_OFFSET lo and hi. -/
def FaultRecord.offsetWord (r : FaultRecord) (hi : Bool) : Word :=
  match r.claim.walk with
  | some w => if hi then (highBits w.offset).zeroExtend 16 else lowHalf w.offset
  | none => 0

/-- R187: FAULT_CAPTURE lo (type and tag) and hi (the parameter). -/
def FaultRecord.captureWord (r : FaultRecord) (hi : Bool) : Word :=
  match r.claim.packet with
  | some k => if hi then headerParameter k.capture else k.capture.extractLsb' 0 16
  | none => 0

/-- R168, R187: a register of the FAULT window; $0000 when the queue is empty. -/
def State.faultWindow (s : State) (f : FaultRecord → Word) : Word :=
  match s.faults.queue with
  | [] => 0
  | r :: _ => f r

/-- R39, R185: the context that CTX_SELECT selects. -/
def selectedContext (sel : Fin 17) : ContextId :=
  if h : sel.val < 16 then .head ⟨sel.val / 4, by omega⟩ ⟨sel.val % 4, by omega⟩ else .host

/-- The aperture index of a copy, 0 without one (R40). -/
def copyIndex (k : Option Copy) : Nat :=
  match k with
  | some k => k.aperture.val
  | none => 0

/-- The generation of a copy, 0 without one (R40). -/
def copyGeneration (k : Option Copy) : Nat :=
  match k with
  | some k => k.generation.toNat
  | none => 0

/-- The granted rights of a copy as a number, 0 without one (R185). -/
def copyRights (k : Option Copy) : Nat :=
  match k with
  | some k => k.granted.number
  | none => 0

/-- R40, R185: CTX_STATE. -/
def State.readCtxState (s : State) : Word :=
  match selectedContext s.window.ctxSelect with
  | .head p t =>
    Word.place 0 (s.context p t).state.number ||| Word.bit 3 (s.context p t).endIndicator |||
      Word.bit 4 (isStale s.apertures (s.context p t).copy) ||| Word.place 5 (s.inFlight p t) |||
      Word.place 8 (copyIndex (s.context p t).copy)
  | .host =>
    Word.place 0 s.hostContext.state.number ||| Word.bit 4 (isStale s.apertures s.hostContext.copy) |||
      Word.place 8 (copyIndex s.hostContext.copy)

/-- R40, R185: CTX_COPY. -/
def State.readCtxCopy (s : State) : Word :=
  match selectedContext s.window.ctxSelect with
  | .head p t =>
    Word.place 0 (copyGeneration (s.context p t).copy) ||| Word.place 8 (s.context p t).passes.toNat
  | .host => Word.place 0 (copyGeneration s.hostContext.copy) ||| Word.place 8 s.hostContext.passes.toNat

/-- R41: the cursor of the selected context. -/
def State.selectedCursor (s : State) : Nat :=
  match selectedContext s.window.ctxSelect with
  | .head p t => (s.context p t).cursor
  | .host => s.hostContext.cursor

/-- R185: CTX_GRANTED. -/
def State.readCtxGranted (s : State) : Word :=
  match selectedContext s.window.ctxSelect with
  | .head p t => Word.place 0 (copyRights (s.context p t).copy)
  | .host => Word.place 0 (copyRights s.hostContext.copy)

/-- R185: CTX_BINDING. -/
def State.readCtxBinding (s : State) : Word :=
  match selectedContext s.window.ctxSelect with
  | .head p t =>
    match s.slot p t with
    | some b => Word.bit 15 true ||| Word.place 8 b.aperture.val ||| Word.place 0 b.rights.number
    | none => 0
  | .host => 0

/-- R159, R185: HOST_STATE. -/
def State.readHostState (s : State) : Word :=
  Word.place 0 s.hostContext.state.number ||| Word.bit 4 (isStale s.apertures s.hostContext.copy) |||
    Word.place 8 (copyIndex s.hostContext.copy) ||| Word.place 14 (copyRights s.hostContext.copy)

/-- R11: the record that APERTURE_SELECT selects. -/
def State.selectedAperture (s : State) : Aperture := s.aperture s.window.apertureSelect

/-- R185: AP_STATUS. -/
def State.readApStatus (s : State) : Word :=
  Word.bit 0 s.selectedAperture.isDefined ||| Word.bit 1 (s.selectedAperture.geometry.order == .columns) |||
    Word.bit 2 (s.selectedAperture.geometry.policy == .loop) ||| Word.place 3 s.selectedAperture.rights.number |||
    Word.place 8 s.selectedAperture.generation.toNat

/-- R176, R185: an error counter: count and overflow flag. -/
def ErrorCounter.word (c : ErrorCounter) : Word := Word.place 0 c.count ||| Word.bit 7 c.overflow

/-- R184: RETURN_LIMIT: the selected port's limit and the selection. -/
def State.readReturnLimit (s : State) : Word :=
  Word.place 0 (s.port s.window.returnLimitSelect).returnLimit ||| Word.place 12 s.window.returnLimitSelect.val

/-- R183: the value of each register as it stands. A read of HOST_DATA is an access and not an inspection (R155), and
has no value here. -/
def State.readRegister (s : State) (r : Register) : Word :=
  match r with
  | .id => 0x6341
  | .control => s.readControl
  | .portState => s.readPortState
  | .cmd => s.command.lastOpcode
  | .arg i => s.command.args.get i
  | .cmdStatus => Word.bit 0 s.command.busy ||| Word.bit 1 s.command.collision
  | .result => Word.place 0 s.command.result.number
  | .detail i => (s.command.details.get i).zeroExtend 16
  | .drainLimit => s.retire.drainLimit.zeroExtend 16
  | .rxLimit p => (s.port p).rxLimit
  | .intStatus => s.intSources
  | .intEnable => s.interrupts.enable.zeroExtend 16
  | .alert => Word.bit 0 s.faults.alert
  | .classMap hi => readClasses s.faults.classMap hi
  | .markFlags hi => if hi then s.marks.extractLsb' 16 16 else s.marks.extractLsb' 0 16
  | .faultInfo => s.faultWindow FaultRecord.info
  | .faultRepeat => s.faultWindow FaultRecord.repeatWord
  | .faultAperture => s.faultWindow FaultRecord.apertureWord
  | .faultOffset hi => s.faultWindow (fun r => r.offsetWord hi)
  | .faultCapture hi => s.faultWindow (fun r => r.captureWord hi)
  | .faultCount => Word.place 0 s.faults.queue.length
  | .errorCounter q => (s.faults.counters.get q.number).word
  | .ctxSelect => Word.place 0 s.window.ctxSelect.val
  | .ctxState => s.readCtxState
  | .ctxCopy => s.readCtxCopy
  | .ctxCursor hi => if hi then s.window.ctxHold.zeroExtend 16 else lowHalf s.selectedCursor
  | .ctxGranted => s.readCtxGranted
  | .ctxBinding => s.readCtxBinding
  | .hostData => 0
  | .hostState => s.readHostState
  | .hostCursor hi => if hi then s.window.hostHold.zeroExtend 16 else lowHalf s.hostContext.cursor
  | .apertureSelect => Word.place 0 s.window.apertureSelect.val
  | .apStatus => s.readApStatus
  | .apFirstCol => s.selectedAperture.geometry.firstColumn.zeroExtend 16
  | .apLastCol => s.selectedAperture.geometry.lastColumn.zeroExtend 16
  | .apRows => s.selectedAperture.geometry.lastRow ++ s.selectedAperture.geometry.firstRow
  | .apMark => s.selectedAperture.geometry.mark.zeroExtend 16
  | .reportPending p => (s.port p).reportFlags
  | .returnLimit => s.readReturnLimit
  | .unmapped => 0

/-! ### Read cycles with a side effect (R41, R155, R160, R176) -/

/-- R176: an error counter is read and cleared. -/
def State.readCounter (s : State) (q : Source) : State :=
  { s with faults := { s.faults with counters := s.faults.counters.set q.number ⟨0, false⟩ } }.drive
    (s.readRegister (.errorCounter q))

/-- R41: a read of the context cursor's low register captures the bits above. -/
def State.readCtxCursorLo (s : State) : State :=
  { s with window := { s.window with ctxHold := highBits s.selectedCursor } }.drive
    (s.readRegister (.ctxCursor false))

/-- R160: a read of HOST_CURSOR lo captures the bits above in its own holding register. -/
def State.readHostCursorLo (s : State) : State :=
  { s with window := { s.window with hostHold := highBits s.hostContext.cursor } }.drive
    (s.readRegister (.hostCursor false))

/-- R183: what a read cycle does. Only a HOST_DATA read asserts WAIT (R180), so only for it can the strobe be released
early. -/
def State.readCycle (s : State) (r : Register) (released : Bool) : State :=
  match r with
  | .errorCounter q => s.readCounter q
  | .ctxCursor hi => if hi then s.drive (s.readRegister (.ctxCursor true)) else s.readCtxCursorLo
  | .hostCursor hi => if hi then s.drive (s.readRegister (.hostCursor true)) else s.readHostCursorLo
  | .hostData => s.hostRead released
  | r => s.drive (s.readRegister r)

/-! ### Write cycles (R183) -/

/-- R182: a write to CONTROL. -/
def State.writeControl (s : State) (v : Word) : State :=
  if v.getLsbD 8 then s.softResetAll else s.writeEnables v

/-- R123: a write to ARG0..ARG3. -/
def State.writeArg (s : State) (i : Fin 4) (v : Word) : State :=
  { s with command := { s.command with args := s.command.args.set i v } }

/-- R136: a write to DRAIN_LIMIT stores its low 12 bits. -/
def State.writeDrainLimit (s : State) (v : Word) : State :=
  { s with retire := { s.retire with drainLimit := v.truncate 12 } }

/-- R61: a write to RX_LIMIT. -/
def State.writeRxLimit (s : State) (p : Port) (v : Word) : State := s.setPort p { s.port p with rxLimit := v }

/-- R177: a write-1 to INT_STATUS. -/
def State.writeIntStatus (s : State) (v : Word) : State := { s with interrupts := clearLatches s.interrupts v }

/-- R178: a write to INT_ENABLE stores its thirteen positions. -/
def State.writeIntEnable (s : State) (v : Word) : State :=
  { s with interrupts := { s.interrupts with enable := v.truncate 13 } }

/-- R179: a write-1 to bit 0 of ALERT clears the alert latch. -/
def State.writeAlert (s : State) (v : Word) : State :=
  { s with faults := { s.faults with alert := s.faults.alert && !v.getLsbD 0 } }

/-- R165: a write to CLASS_MAP. -/
def State.writeClassMap (s : State) (hi : Bool) (v : Word) : State :=
  { s with faults := { s.faults with classMap := writeClasses s.faults.classMap hi v } }

/-- R19: a write-1 to MARK_FLAGS. -/
def State.writeMarks (s : State) (hi : Bool) (v : Word) : State := { s with marks := clearMarks s.marks hi v }

/-- R172: FAULT_POP removes the record at the head of the fault queue; a pop of an empty queue is ignored. -/
def State.popFault (s : State) : State := { s with faults := { s.faults with queue := s.faults.queue.tail } }

/-- R39: a write to CTX_SELECT takes 0..16 of the low five bits and ignores 17..31. -/
def State.writeCtxSelect (s : State) (v : Word) : State :=
  if h : (v.extractLsb' 0 5).toNat < 17 then { s with window := { s.window with ctxSelect := ⟨_, h⟩ } } else s

/-- R11: a write to APERTURE_SELECT takes the low five bits. -/
def State.writeApertureSelect (s : State) (v : Word) : State :=
  { s with window := { s.window with apertureSelect := (v.extractLsb' 0 5).toFin } }

/-- R184: a write to RETURN_LIMIT selects a port by bits 1:0. -/
def State.writeReturnLimit (s : State) (v : Word) : State :=
  { s with window := { s.window with returnLimitSelect := (v.extractLsb' 0 2).toFin } }

/-- R183: what a write cycle does. Writes to read-only registers, to the counters and to offsets not in the map are
ignored. -/
def State.writeCycle (s : State) (r : Register) (v : Word) : State :=
  match r with
  | .control => s.writeControl v
  | .cmd => s.writeCmd v
  | .arg i => s.writeArg i v
  | .drainLimit => s.writeDrainLimit v
  | .rxLimit p => s.writeRxLimit p v
  | .intStatus => s.writeIntStatus v
  | .intEnable => s.writeIntEnable v
  | .alert => s.writeAlert v
  | .classMap hi => s.writeClassMap hi v
  | .markFlags hi => s.writeMarks hi v
  | .faultCount => s.popFault
  | .ctxSelect => s.writeCtxSelect v
  | .hostData => s.hostWrite v
  | .apertureSelect => s.writeApertureSelect v
  | .returnLimit => s.writeReturnLimit v
  | .id => s
  | .portState => s
  | .cmdStatus => s
  | .result => s
  | .detail _ => s
  | .faultInfo => s
  | .faultRepeat => s
  | .faultAperture => s
  | .faultOffset _ => s
  | .faultCapture _ => s
  | .errorCounter _ => s
  | .ctxState => s
  | .ctxCopy => s
  | .ctxCursor _ => s
  | .ctxGranted => s
  | .ctxBinding => s
  | .hostState => s
  | .hostCursor _ => s
  | .apStatus => s
  | .apFirstCol => s
  | .apLastCol => s
  | .apRows => s
  | .apMark => s
  | .reportPending _ => s
  | .unmapped => s

/-! ### The host bus (R180) -/

/-- R180: a bus cycle takes its effect, in one event; the end of a drain belongs to that event (R144). -/
def State.takeCycle (s : State) (c : BusCycle) : State :=
  match c with
  | .read r released => (s.readCycle r released).settleDrain
  | .write r v => (s.writeCycle r v).settleDrain

/-- R180: a cycle is held with WAIT while an earlier HOST_DATA request awaits its grant, and taken otherwise. -/
def State.hostCycle (s : State) (c : BusCycle) : State :=
  if s.arbiter.hostRequest.isSome then { s with bus := { s.bus with held := s.bus.held ++ [c] } } else s.takeCycle c

/-- R180: whether the host released the strobe of a read while WAIT was asserted. -/
def BusCycle.isReleased (c : BusCycle) : Bool :=
  match c with
  | .read _ released => released
  | .write _ _ => false

/-- R180: a cycle whose strobe has been released takes its effect, and drives nothing, because it has ended. -/
def State.takeEndedCycle (s : State) (c : BusCycle) : State :=
  { s.takeCycle c with bus := { (s.takeCycle c).bus with readData := s.bus.readData } }

/-- R180: a held cycle is taken. One released under WAIT has ended, and so has one that a later cycle is held behind.
DEDUCED (log entry 17). -/
def State.takeHeldCycle (s : State) (c : BusCycle) (behind : List BusCycle) : State :=
  if c.isReleased ∨ behind ≠ [] then s.takeEndedCycle c else s.takeCycle c

/-- R180: after a HOST_DATA grant the held cycles are taken in the order issued, until one posts a request of its
own. DEDUCED (log entry 17): they are kept first in, first out. -/
def State.takeHeld (s : State) (held : List BusCycle) : State :=
  match held with
  | [] => { s with bus := { s.bus with held := [] } }
  | c :: rest =>
    let s1 := s.takeHeldCycle c rest
    if s1.arbiter.hostRequest.isSome then { s1 with bus := { s1.bus with held := rest } } else s1.takeHeld rest

/-- R2, R154, R155, R180: the grant of HA's request has been performed, and the cycles held behind it are taken. -/
def State.performHost (s : State) : State :=
  match s.arbiter.hostRequest with
  | none => s.endGrant
  | some r => (s.performHostAccess r).takeHeld s.bus.held

/-- R2: the grant being performed completes. -/
def State.performGrant (s : State) : State :=
  match s.arbiter.granting with
  | none => s
  | some (.port p) => s.performPort p
  | some .host => s.performHost

/-- A command that is a host bus cycle. While RESET is asserted bus cycles are not taken (R181). -/
def busCommand (s : State) (c : BusCycle) : Host.Outcome State Fault Refusal :=
  if s.inReset then .next s else .next (s.hostCycle c)

/-- R183: a read cycle of the register at a byte offset. The opcode table has a row only for the reads with a side
effect; this is the read cycle of any register, and for those four it is what their rows do. -/
def busRead (offset : BitVec 8) (released : Bool) (s : State) : Host.Outcome State Fault Refusal :=
  busCommand s (.read (registerAt offset) released)

/-! ### The commands -/

/-- GRANT_PERFORMED (R2). -/
def execGrantPerformed (s : State) : Host.Outcome State Fault Refusal :=
  operate s fun s => s.performGrant

/-- SOFT_RESET (R84): the write of `v` to CONTROL. -/
def execSoftReset (v : Word) (s : State) : Host.Outcome State Fault Refusal := busCommand s (.write .control v)

/-- PORT_ENABLE (R67): the write of `v` to CONTROL. -/
def execPortEnable (v : Word) (s : State) : Host.Outcome State Fault Refusal := busCommand s (.write .control v)

/-- PORT_DISABLE (R68): the write of `v` to CONTROL. -/
def execPortDisable (v : Word) (s : State) : Host.Outcome State Fault Refusal := busCommand s (.write .control v)

/-- DEFINE_APERTURE (R12, R13, R186). -/
def execDefineAperture (s : State) : Host.Outcome State Fault Refusal := busCommand s (.write .cmd 0x0011)

/-- CLEAR_APERTURE (R15, R186). -/
def execClearAperture (s : State) : Host.Outcome State Fault Refusal := busCommand s (.write .cmd 0x0012)

/-- BIND (R22, R186). -/
def execBind (s : State) : Host.Outcome State Fault Refusal := busCommand s (.write .cmd 0x0021)

/-- UNBIND (R23, R186). -/
def execUnbind (s : State) : Host.Outcome State Fault Refusal := busCommand s (.write .cmd 0x0022)

/-- RETIRE_ABORT (R141, R186): the write of $0031; the staged drain choice is 0 for this row. DESIGN CHOICE (log
entry 4): both RETIRE rows are that write, whose staged drain bit decides. -/
def execRetireAbort (s : State) : Host.Outcome State Fault Refusal := busCommand s (.write .cmd 0x0031)

/-- RETIRE_DRAIN (R142, R186): the write of $0031; the staged drain choice is 1 for this row. DESIGN CHOICE (log
entry 4), as for RETIRE_ABORT. -/
def execRetireDrain (s : State) : Host.Outcome State Fault Refusal := busCommand s (.write .cmd 0x0031)

/-- SUSPEND_PORT (R132, R186). -/
def execSuspendPort (s : State) : Host.Outcome State Fault Refusal := busCommand s (.write .cmd 0x0041)

/-- RESUME_PORT (R77, R186). -/
def execResumePort (s : State) : Host.Outcome State Fault Refusal := busCommand s (.write .cmd 0x0042)

/-- RESET_PORT (R78, R186). -/
def execResetPort (s : State) : Host.Outcome State Fault Refusal := busCommand s (.write .cmd 0x0043)

/-- HOST_OPEN (R152, R186). -/
def execHostOpen (s : State) : Host.Outcome State Fault Refusal := busCommand s (.write .cmd 0x0051)

/-- HOST_CLOSE (R153, R186). -/
def execHostClose (s : State) : Host.Outcome State Fault Refusal := busCommand s (.write .cmd 0x0052)

/-- BAD_COMMAND (R128): the write of `v` to CMD. -/
def execBadCommand (v : Word) (s : State) : Host.Outcome State Fault Refusal := busCommand s (.write .cmd v)

/-- CMD_COLLISION (R126): the write of `v` to CMD. If the unit has become IDLE the write is taken (R127). -/
def execCmdCollision (v : Word) (s : State) : Host.Outcome State Fault Refusal := busCommand s (.write .cmd v)

/-- HOST_DATA_WRITE (R154). -/
def execHostDataWrite (v : Word) (s : State) : Host.Outcome State Fault Refusal := busCommand s (.write .hostData v)

/-- HOST_DATA_READ (R155). `released`: the host releases its strobe while WAIT is still asserted (R180). -/
def execHostDataRead (s : State) (released : Bool := false) : Host.Outcome State Fault Refusal :=
  busCommand s (.read .hostData released)

/-- FAULT_POP (R172): the value written is ignored. -/
def execFaultPop (v : Word) (s : State) : Host.Outcome State Fault Refusal := busCommand s (.write .faultCount v)

/-- ERROR_COUNTER_READ (R176). `released`: the read is held, and the host releases its strobe meanwhile (R180). -/
def execErrorCounterRead (q : Source) (s : State) (released : Bool := false) : Host.Outcome State Fault Refusal :=
  busCommand s (.read (.errorCounter q) released)

/-- CTX_CURSOR_LO_READ (R41). `released`: the read is held, and the host releases its strobe meanwhile (R180). -/
def execCtxCursorLoRead (s : State) (released : Bool := false) : Host.Outcome State Fault Refusal :=
  busCommand s (.read (.ctxCursor false) released)

/-- HOST_CURSOR_LO_READ (R160). `released`: the read is held, and the host releases its strobe meanwhile (R180). -/
def execHostCursorLoRead (s : State) (released : Bool := false) : Host.Outcome State Fault Refusal :=
  busCommand s (.read (.hostCursor false) released)

/-- INT_STATUS_WRITE (R177). -/
def execIntStatusWrite (v : Word) (s : State) : Host.Outcome State Fault Refusal :=
  busCommand s (.write .intStatus v)

/-- MARK_FLAGS_WRITE (R19). -/
def execMarkFlagsWrite (hi : Bool) (v : Word) (s : State) : Host.Outcome State Fault Refusal :=
  busCommand s (.write (.markFlags hi) v)

/-- ALERT_WRITE (R179). -/
def execAlertWrite (v : Word) (s : State) : Host.Outcome State Fault Refusal := busCommand s (.write .alert v)

/-- CTX_SELECT_WRITE (R39). -/
def execCtxSelectWrite (v : Word) (s : State) : Host.Outcome State Fault Refusal :=
  busCommand s (.write .ctxSelect v)

/-- CLASS_MAP_WRITE (R165). -/
def execClassMapWrite (hi : Bool) (v : Word) (s : State) : Host.Outcome State Fault Refusal :=
  busCommand s (.write (.classMap hi) v)

/-- RETURN_LIMIT_SELECT (R184). -/
def execReturnLimitSelect (v : Word) (s : State) : Host.Outcome State Fault Refusal :=
  busCommand s (.write .returnLimit v)

/-- REGISTER_WRITE (R183): the write of `v` to the register at a byte offset. -/
def execRegisterWrite (offset : BitVec 8) (v : Word) (s : State) : Host.Outcome State Fault Refusal :=
  busCommand s (.write (registerAt offset) v)

end Sys2Proof.Machine
end

