-- ==== Sys2Proof/Machine/Dispatch.lean ====
section
/-! DEFINITION. What each command does: one arm per row of spec/opcode_table.json. -/

namespace Sys2Proof.Machine

def exec (i : Instr) (s : State) : Host.Outcome State Fault Refusal :=
  match i with
  | .powerOnReset asserted => Sys2Proof.Machine.execPowerOnReset asserted s
  | .softReset v => Sys2Proof.Machine.execSoftReset v s
  | .portEnable v => Sys2Proof.Machine.execPortEnable v s
  | .portDisable v => Sys2Proof.Machine.execPortDisable v s
  | .lineUp p => Sys2Proof.Machine.execLineUp p s
  | .lineDown p => Sys2Proof.Machine.execLineDown p s
  | .burstStart p => Sys2Proof.Machine.execBurstStart p s
  | .byte p b => Sys2Proof.Machine.execByte p b s
  | .burstEnd p => Sys2Proof.Machine.execBurstEnd p s
  | .codeViolation p => Sys2Proof.Machine.execCodeViolation p s
  | .receiveTimeout p => Sys2Proof.Machine.execReceiveTimeout p s
  | .startItem p => Sys2Proof.Machine.execStartItem p s
  | .stopItem p => Sys2Proof.Machine.execStopItem p s
  | .readItem p => Sys2Proof.Machine.execReadItem p s
  | .writeItem p => Sys2Proof.Machine.execWriteItem p s
  | .arbiterGrant => Sys2Proof.Machine.execArbiterGrant s
  | .grantPerformed => Sys2Proof.Machine.execGrantPerformed s
  | .responseStart p => Sys2Proof.Machine.execResponseStart p s
  | .returnEntryTake p => Sys2Proof.Machine.execReturnEntryTake p s
  | .returnEnd p => Sys2Proof.Machine.execReturnEnd p s
  | .reportSent p => Sys2Proof.Machine.execReportSent p s
  | .ackSent p => Sys2Proof.Machine.execAckSent p s
  | .endSymbolSent p => Sys2Proof.Machine.execEndSymbolSent p s
  | .defineAperture => Sys2Proof.Machine.execDefineAperture s
  | .clearAperture => Sys2Proof.Machine.execClearAperture s
  | .bind => Sys2Proof.Machine.execBind s
  | .unbind => Sys2Proof.Machine.execUnbind s
  | .retireAbort => Sys2Proof.Machine.execRetireAbort s
  | .retireDrain => Sys2Proof.Machine.execRetireDrain s
  | .drainTimerExpiry => Sys2Proof.Machine.execDrainTimerExpiry s
  | .suspendPort => Sys2Proof.Machine.execSuspendPort s
  | .resumePort => Sys2Proof.Machine.execResumePort s
  | .resetPort => Sys2Proof.Machine.execResetPort s
  | .hostOpen => Sys2Proof.Machine.execHostOpen s
  | .hostClose => Sys2Proof.Machine.execHostClose s
  | .badCommand v => Sys2Proof.Machine.execBadCommand v s
  | .cmdCollision v => Sys2Proof.Machine.execCmdCollision v s
  | .hostDataWrite v => Sys2Proof.Machine.execHostDataWrite v s
  | .hostDataRead released => Sys2Proof.Machine.execHostDataRead s released
  | .faultPop v => Sys2Proof.Machine.execFaultPop v s
  | .errorCounterRead q released => Sys2Proof.Machine.execErrorCounterRead q s released
  | .ctxCursorLoRead released => Sys2Proof.Machine.execCtxCursorLoRead s released
  | .hostCursorLoRead released => Sys2Proof.Machine.execHostCursorLoRead s released
  | .intStatusWrite v => Sys2Proof.Machine.execIntStatusWrite v s
  | .markFlagsWrite hi v => Sys2Proof.Machine.execMarkFlagsWrite hi v s
  | .alertWrite v => Sys2Proof.Machine.execAlertWrite v s
  | .ctxSelectWrite v => Sys2Proof.Machine.execCtxSelectWrite v s
  | .classMapWrite hi v => Sys2Proof.Machine.execClassMapWrite hi v s
  | .returnLimitSelect v => Sys2Proof.Machine.execReturnLimitSelect v s
  | .registerWrite offset v => Sys2Proof.Machine.execRegisterWrite offset v s

end Sys2Proof.Machine
end

