-- ==== Sys2Proof/Machine/Timebase.lean ====
section
/-! DEFINITION. The 1 µs timebase (ch 0, Time): one microsecond of the receive timers (R61) and of the drain timer
(R136). The table has no row for a tick; it is what a step does on an empty queue (log entry 5). -/

namespace Sys2Proof.Machine

/-- One microsecond of a timer: a stopped one stays stopped. -/
def timerTick (t : Option Nat) : Option Nat := t.map fun n => n - 1

/-- R136: one microsecond of the drain timer's count. -/
def State.countDrain (s : State) : State := { s with retire := { s.retire with timer := timerTick s.retire.timer } }

/-- R61: one microsecond of a receive timer's count. -/
def State.countReceive (s : State) (p : Port) : State :=
  s.setPort p { s.port p with rxTimer := timerTick (s.port p).rxTimer }

/-- R61, R62: one microsecond of a port's receive timer; at 0 it expires. -/
def State.tickReceive (s : State) (p : Port) : State :=
  if ((s.countReceive p).port p).rxTimer = some 0 then ((s.countReceive p).expireReceive p).settleDrain
  else s.countReceive p

/-- R136, R147: one microsecond of the drain timer; at 0 it expires. -/
def State.tickDrain (s : State) : State :=
  if s.countDrain.retire.timer = some 0 then s.countDrain.expireDrain else s.countDrain

/-- One microsecond: the receive timers of P0 to P3, then the drain timer. While RESET is asserted nothing runs
(R181). -/
def State.tick (s : State) : State := if s.inReset then s else (allPorts.foldl State.tickReceive s).tickDrain

end Sys2Proof.Machine
end

