-- ==== Sys2Proof/Safety.lean ====
section
/-! DEFINITION. What a well-kept state of the part is: the canonical form of the band store and the bounds and keepings
that the rules of spec/ give the machine in every state it reaches. Each is a statement about one state. -/

namespace Sys2Proof

open Sys2Proof.Machine

/-! ### The band store -/

/-- The canonical form of the listed cells: addresses strictly rising, no entry equal to what the unlisted cell reads
as, and every address inside the store (R1). -/
abbrev Memory.wf (powerOns : Nat) (m : List (Nat × Word)) : Prop :=
  m.Pairwise (fun a b => a.1 < b.1) ∧ (∀ e ∈ m, e.2 ≠ Config.powerOnCell powerOns e.1) ∧ ∀ e ∈ m, e.1 < 262144

/-- The band store stands in its canonical form. -/
def StoreCanonical (s : State) : Prop := Memory.wf s.powerOns s.store

/-! ### The fault queue and the error counters (R169, R170, R175) -/

/-- R169, R170, R175: at most 16 records, no two with the same port, stream and kind, repeat counts 1..255; and every
error counter counts to at most 127. -/
def FaultQueueKept (s : State) : Prop :=
  s.faults.queue.length ≤ 16 ∧ s.faults.queue.Pairwise (fun a b => sameKey a.claim b.claim = false) ∧
    (∀ r ∈ s.faults.queue, 1 ≤ r.repeats ∧ r.repeats ≤ 255) ∧ ∀ k : Fin 5, (s.faults.counters.get k).count ≤ 127

/-! ### Bindings (R21) -/

/-- R21: every binding names an aperture table entry that is DEFINED, and its rights are not empty. -/
def BindingsNameDefined (s : State) : Prop :=
  ∀ (p : Port) (t : Stream) (b : Binding), s.slot p t = some b →
    (s.aperture b.aperture).isDefined = true ∧ b.rights.isEmpty = false

/-! ### Contexts (R23, R28, R37) -/

/-- R23, R28, R37: a head context. EMPTY it holds no copy and stands at cursor 0. In any other state it holds a copy of the
aperture its binding slot names, its cursor is at most the copy's size, and at size only if it is ENDED, or RETIRING
with its end indicator set. -/
def HeadContextKept (c : HeadContext) (slot : Option Binding) : Prop :=
  (c.state = .empty → c = ⟨.empty, none, false, 0, 0⟩) ∧
    (c.state ≠ .empty →
      ∃ (k : Copy) (b : Binding), c.copy = some k ∧ slot = some b ∧ b.aperture = k.aperture ∧
        c.cursor ≤ k.geometry.size ∧
        (c.cursor = k.geometry.size → c.state = .ended ∨ (c.state = .retiring ∧ c.endIndicator = true)))

/-- R28, R37: the host context. Without a copy it is CLOSED at cursor 0; its cursor is at most its copy's size, and at size
only if it is ENDED. -/
def HostContextKept (c : HostContext) : Prop :=
  match c.copy with
  | none => c.state = .closed ∧ c.cursor = 0
  | some k => c.cursor ≤ k.geometry.size ∧ (c.cursor = k.geometry.size → c.state = .ended)

/-- R23, R37: every context is kept so. -/
def ContextsKept (s : State) : Prop :=
  (∀ (p : Port) (t : Stream), HeadContextKept (s.context p t) (s.slot p t)) ∧ HostContextKept s.hostContext

/-! ### Ports (R44, R61, R66, R73, R75, R81, R106, R108) and their queues (R85, R103) -/

/-- R85, R103: the bounds of a port's queues: at most 4 work items, at most 2 of them WRITE items, at most 4 entries
in the return queue. -/
def PortQueuesBounded (x : PortState) : Prop :=
  x.queue.length ≤ 4 ∧ (x.queue.filter (fun i => i.kind == .write)).length ≤ 2 ∧ x.returns.length ≤ 4

/-- R85, R103: the queues of every port are within their bounds. -/
def QueuesBounded (s : State) : Prop := ∀ p : Port, PortQueuesBounded (s.port p)

/-- R44, R61, R67, R73, R108: a port is OFF exactly when its enable bit is 0; a burst is open only in LISTENING, and the
receive timer runs only for an open burst; the builder is IDLE with nothing in it unless the port is RESPONDING, where
the work queue is empty. R75, R81, R106: the return queue of a SUSPENDED port is empty, the ACK count is at most 65535,
and the return limit is 1..512. -/
def PortKept (x : PortState) : Prop :=
  (x.link = .off ↔ x.enabled = false) ∧ (x.burst ≠ none → x.link = .listening) ∧
    (x.rxTimer ≠ none → x.burst ≠ none) ∧ (x.link ≠ .responding → x.builder = ⟨.idle, none, false, none⟩) ∧
    (x.link = .responding → x.queue = []) ∧ (x.mode = .suspended → x.returns = []) ∧ x.ackCount ≤ 65535 ∧
    1 ≤ x.returnLimit ∧ x.returnLimit ≤ 512

/-- The ports are kept so, and their queues are within their bounds. -/
def PortsKept (s : State) : Prop := QueuesBounded s ∧ ∀ p : Port, PortKept (s.port p)

/-! ### Retirement (R135, R144) -/

/-- R144: what holds between events: while a drain is in progress some context is RETIRING, and every RETIRING context
still holds an in-flight unit. -/
def DrainSettled (s : State) : Prop :=
  s.retire.phase = .draining →
    (∃ (p : Port) (t : Stream), (s.context p t).state = .retiring) ∧
      ∀ (p : Port) (t : Stream), (s.context p t).state = .retiring → s.inFlight p t ≠ 0

/-- R135, R144: the retire engine. The unit is BUSY exactly while a drain is in progress; a context is RETIRING only then;
and the drain is settled between events. R145: the drained and aborted counts are at most 255. -/
def RetireEngineKept (s : State) : Prop :=
  (s.command.busy = true ↔ s.retire.phase = .draining) ∧
    (∀ (p : Port) (t : Stream), (s.context p t).state = .retiring → s.retire.phase = .draining) ∧ DrainSettled s ∧
    s.retire.drained ≤ 255 ∧ s.retire.aborted ≤ 255

/-! ### Premises of the statements -/

/-- The part operates (R181) and stands between two events (R144). -/
def Operating (s : State) : Prop := s.inReset = false ∧ DrainSettled s

/-- Besides, no HOST_DATA request awaits its grant: the next host bus cycle is taken at once (R180). -/
def BusFree (s : State) : Prop := Operating s ∧ s.arbiter.hostRequest = none

/-- Besides, the command unit is IDLE: the next write to CMD is taken (R124). -/
def CommandReady (s : State) : Prop := BusFree s ∧ s.command.busy = false

end Sys2Proof
end

