-- ==== Sys2Proof/Certificates/Slice0/Obligations.lean ====
section
/-! DEFINITION. The statements for the provers. A docstring cites the rules of spec/ a statement rests on. The premises
`Operating`, `BusFree` and `CommandReady` are those of Sys2Proof/Safety.lean; their part that a run could break,
`DrainSettled`, is an invariant of every step (RetireEngineKeptByEveryStep). -/

open Sys2Proof Sys2Proof.Machine

/-! ### The step and the two resets -/

/-- A step takes the command at the front of the queue and runs it on the state with the rest of the queue. The queue
of waiting commands and the order of a step are the model's own: log entries 2 and 23, the model's choice. The spec
(95_what_each_step_holds.md) says that the opcode table's steps are "each whole and indivisible". -/
def Obligations.StepRunsFrontCommand : Prop :=
  ∀ (c : Instr) (rest : List Instr) (s : State), s.pending = c :: rest → step s = exec c { s with pending := rest }

/-- Log entry 5, the model's choice: with nothing waiting a step is one microsecond, which takes 1 from every
running timer that does not run out in it and changes nothing else; while RESET is asserted nothing changes (R181).
R61 and R136 give the timebase. Log entry 5, the model's choice: the microsecond in which a timer runs out is its
expiry event: the RECEIVE_TIMEOUT of the port whose receive timer stands at 1 (R62), and the DRAIN_TIMER_EXPIRY
where the drain timer does (R147). -/
def Obligations.EmptyQueueStepIsOneMicrosecond : Prop :=
  (∀ s : State, s.pending = [] →
     (s.inReset = true → step s = .next s) ∧
     (s.inReset = false → (∀ (p : Port) (n : Nat), (s.port p).rxTimer = some n → 2 ≤ n) →
       (∀ n : Nat, s.retire.timer = some n → 2 ≤ n) →
       step s = .next
         { s with
           ports := Bank.tabulate fun p =>
             { s.port p with rxTimer := (s.port p).rxTimer.map fun n => n - 1 }
           retire := { s.retire with timer := s.retire.timer.map fun n => n - 1 } })) ∧
  ((∀ s : State, s.pending = [] → s.inReset = false → (∀ p : Port, (s.port p).rxTimer = none) →
     s.retire.timer = some 1 →
     step s = exec .drainTimerExpiry { s with retire := { s.retire with timer := some 0 } }) ∧
   ∀ (s : State) (p : Port), s.pending = [] → s.inReset = false → (s.port p).rxTimer = some 1 →
     (∀ q : Port, q ≠ p → (s.port q).rxTimer = none) → s.retire.timer = none →
     step s = exec (.receiveTimeout p) (s.setPort p { s.port p with rxTimer := some 0 }))

/-- Log entry 23, the model's choice: exec answers a next state for every command and every state, and leaves the
queue of waiting commands as it is. That state may be the one before it (log entries 3 and 19, the model's choice), or
the one before it with a bus cycle held (R180). -/
def Obligations.EveryCommandAnswersANextState : Prop :=
  ∀ (c : Instr) (s : State), ∃ t : State, exec c s = .next t ∧ t.pending = s.pending

/-- R181, R1: RESET asserted puts every piece of state at its power-on value, each cell at a new arbitrary value
(log entry 1), and holds the part; released, the part begins to operate with all that state. The queue of waiting
commands is the model's own (log entry 23). R181: while RESET is asserted bus cycles are not taken, the receivers
report no events, nothing runs, and WAIT, INT and ALERT are deasserted. Log entry 19 (the model's choice): every
command but POWER_ON_RESET then changes nothing. -/
def Obligations.ResetInputHoldsThePartAtPowerOnValues : Prop :=
  (∀ s : State,
     exec (.powerOnReset true) s = .next
         { State.reset with
           inReset := true
           powerOns := s.powerOns + 1
           freeCount := s.freeCount
           pending := s.pending } ∧
       exec (.powerOnReset false) s = .next { s with inReset := false } ∧
       ∀ (t : State) (row : BitVec 8) (column : BitVec 10), exec (.powerOnReset true) s = .next t →
         t.cell row column = Config.powerOnCell (s.powerOns + 1) (row.toNat * 1024 + column.toNat)) ∧
  (∀ (c : Instr) (s : State), s.inReset = true →
     ((∀ asserted : Bool, c ≠ .powerOnReset asserted) → exec c s = .next s) ∧
       s.int = false ∧ s.alertPin = false ∧ s.wait = false)

/-- R6, R7, R21, R28, R83, R122, R135, R136, R165, R174, R175, R177 to R179, R184: the values after power-on reset,
register by register. -/
def Obligations.PowerOnValues : Prop :=
  State.reset.arbiter = ⟨.host, none, Bank.fill 4 none, none⟩ ∧
  (∀ n : ApIndex, State.reset.aperture n = ⟨false, ⟨0, 0, 0, 0, .rows, .stop, 0⟩, ⟨false, false⟩, 0⟩) ∧
  State.reset.marks = 0 ∧
  (∀ (p : Port) (t : Stream), State.reset.slot p t = none ∧ State.reset.context p t = ⟨.empty, none, false, 0, 0⟩ ∧
    State.reset.inFlight p t = 0) ∧
  State.reset.hostContext = ⟨.closed, none, 0, 0⟩ ∧
  (∀ p : Port, (State.reset.port p).enabled = false ∧ (State.reset.port p).link = .off ∧
    (State.reset.port p).mode = .running ∧ (State.reset.port p).queue = [] ∧ (State.reset.port p).returns = [] ∧
    (State.reset.port p).reportFlags = 0 ∧ (State.reset.port p).ackCount = 0 ∧
    (State.reset.port p).responseCounter = 0 ∧ (State.reset.port p).expectation = none ∧
    (State.reset.port p).returnLimit = 32 ∧ (State.reset.port p).rxLimit = 2000 ∧ (State.reset.port p).burst = none ∧
    (State.reset.port p).rxTimer = none) ∧
  State.reset.command = ⟨false, false, 0, Bank.fill 4 0, Bank.fill 4 0, .none, Bank.fill 3 0⟩ ∧
  State.reset.retire = ⟨.idle, [], 0, 0, 0, none, 625⟩ ∧
  State.reset.faults.queue = [] ∧ (∀ q : Source, State.reset.faults.counters.get q.number = ⟨0, false⟩) ∧
  State.reset.faults.alert = false ∧
  State.reset.readRegister (.classMap false) = 0x5454 ∧ State.reset.readRegister (.classMap true) = 0x1015 ∧
  State.reset.readRegister .intStatus = 0 ∧ State.reset.readRegister .intEnable = 0 ∧
  State.reset.window = ⟨0, 0, 0, 0, 0⟩

/-- R6, R19, R28, R84, R134, R135, R174 to R179: the soft reset, with no grant of a port being performed. Everything
a rule does not name is kept: the band store, the aperture table, the binding slots, the receive limits,
DRAIN_LIMIT, the fault queue, the class map, the alert latch, OVERFLOW, INT_ENABLE, the last opcode, the argument
registers and the selections. The freed payload slots keep their cells (the model's own, R87), and a response being
sent is cut. R6: "A grant already being performed when the soft reset is taken completes before the soft reset's
effects on the arbiter." Log entry 14 (the model's choice) has all of the grant's effects come first: the soft reset
is then the GRANT_PERFORMED of that port's request followed by the soft reset. -/
def Obligations.SoftResetResult : Prop :=
  (∀ (v : Word) (s : State), BusFree s → v.getLsbD 8 = true → (∀ p : Port, s.arbiter.granting ≠ some (.port p)) →
     exec (.softReset v) s = .next
       { s with
         arbiter := ⟨.host, none, Bank.fill 4 none, none⟩
         marks := 0
         contexts := Bank.fill 4 (Bank.fill 4 ⟨.empty, none, false, 0, 0⟩)
         hostContext := ⟨.closed, none, 0, 0⟩
         ports := Bank.tabulate fun p =>
           { s.port p with
             enabled := false
             link := .off
             mode := .running
             burst := none
             rxTimer := none
             expectation := none
             returnLimit := 32
             queue := []
             returns := []
             builder := ⟨.idle, none, false, none⟩
             reportFlags := 0
             ackCount := 0
             responseCounter := 0
             line :=
               if (s.port p).link = .responding then { (s.port p).line with status := .cut } else (s.port p).line }
         command := { s.command with
           busy := false
           collision := false
           result := .none
           details := Bank.fill 3 0
           staged := Bank.fill 4 0 }
         retire := ⟨.idle, [], 0, 0, 0, none, s.retire.drainLimit⟩
         faults := { s.faults with counters := Bank.fill 5 ⟨0, false⟩ }
         interrupts := { s.interrupts with
           cmdDone := false
           line := Bank.fill 4 false
           suspend := Bank.fill 4 false
           counter := false }
         window := { s.window with ctxHold := 0, hostHold := 0 } }) ∧
  (∀ (v : Word) (p : Port) (s t : State), BusFree s → v.getLsbD 8 = true → s.arbiter.granting = some (.port p) →
     exec .grantPerformed s = .next t → exec (.softReset v) s = exec (.softReset v) t)

/-! ### Ports -/

/-- R67, R68, R69, R117, R182: a write to CONTROL with SOFT_RESET at 0 acts on each port by the bit held and the bit
written, the same for both rows. A port with no RETIRING context: enabled, it goes from OFF to WAIT_SYNC; disabled,
it goes to OFF, closes its burst, stops its timer, empties its return queue, clears its report flags and ACK count,
removes every work item but one that finishes its cell in hand, and cuts a response, whose outstanding read is no
longer wanted. A port whose bit does not change is as it was, and so is everything else. -/
def Obligations.ControlWriteEnablesAndDisablesPorts : Prop :=
  ∀ (v : Word) (s : State), BusFree s → v.getLsbD 8 = false →
    (∀ (p : Port) (t : Stream), (s.port p).enabled = true → v.getLsbD p.val = false →
      (s.context p t).state ≠ .retiring) →
    ∀ c ∈ [Instr.portEnable v, Instr.portDisable v],
      exec c s = .next
        { s with
          arbiter := { s.arbiter with
            portRequests := Bank.tabulate fun p =>
              if (s.port p).enabled ∧ v.getLsbD p.val = false ∧ (s.port p).link = .responding ∧
                  (s.port p).builder.current ≠ none then
                (s.request p).map fun r => { r with wanted := false }
              else s.request p }
          ports := Bank.tabulate fun p =>
            match (s.port p).enabled, v.getLsbD p.val with
            | false, false => s.port p
            | true, true => s.port p
            | false, true => { s.port p with enabled := true, link := .waitSync }
            | true, false =>
              { s.port p with
                enabled := false
                link := .off
                burst := none
                rxTimer := none
                queue := (s.port p).queue.filterMap fun i =>
                  match i.state with
                  | .receiving _ => none
                  | .ready => none
                  | .committing c inHand _ counted =>
                    if inHand then some { i with state := .committing c true true counted } else none
                returns := []
                builder := if (s.port p).link = .responding then ⟨.idle, none, false, none⟩ else (s.port p).builder
                reportFlags := 0
                ackCount := 0
                line :=
                  if (s.port p).link = .responding then { (s.port p).line with status := .cut }
                  else (s.port p).line } }

/-- R70: a LINE_UP in WAIT_SYNC moves the port to LISTENING with a FREE sequence expectation and a response sequence
counter of 0, and sets the LINE latch. Log entry 3, the model's choice: in any other link state, where R43 says that
LINE_UP is not reported, it changes nothing, and so does a LINE_DOWN in OFF and WAIT_SYNC. R71, R69, R117: a LINE_DOWN
in LISTENING, TURN_WAIT or RESPONDING moves the port to WAIT_SYNC, closes its burst, stops its timer, removes its
RECEIVING item, empties its return queue, cuts a response, whose outstanding read is no longer wanted, and sets the
LINE latch; READY and COMMITTING items stay. R145, R146: during a drain the RECEIVING item and the RETURN being cut
each count as aborted where their context is RETIRING. -/
def Obligations.LineUpAndLineDownResults : Prop :=
  (∀ (p : Port) (s : State), Operating s →
     ((s.port p).link = .waitSync →
       exec (.lineUp p) s = .next
         { s with
           ports := s.ports.set p { s.port p with link := .listening, expectation := none, responseCounter := 0 }
           interrupts := { s.interrupts with line := s.interrupts.line.set p true } }) ∧
     ((s.port p).link ≠ .waitSync → exec (.lineUp p) s = .next s)) ∧
  (∀ (p : Port) (s : State), Operating s → s.retire.aborted ≤ 255 →
     ((s.port p).link = .off ∨ (s.port p).link = .waitSync → exec (.lineDown p) s = .next s) ∧
     ((s.port p).link = .listening ∨ (s.port p).link = .turnWait ∨ (s.port p).link = .responding →
       let lost : Nat :=
         ((s.port p).queue.filter fun i => i.isReceiving && (s.context p i.stream).state == .retiring).length +
           match (s.port p).builder.current with
           | some r =>
             if (s.port p).link = .responding ∧ (s.context p r.stream).state = .retiring then 1 else 0
           | none => 0
       let down : State :=
         { s with
           arbiter := { s.arbiter with
             portRequests :=
               if (s.port p).link = .responding ∧ (s.port p).builder.current ≠ none then
                 s.arbiter.portRequests.set p ((s.request p).map fun r => { r with wanted := false })
               else s.arbiter.portRequests }
           ports := s.ports.set p
             { s.port p with
               link := .waitSync
               burst := none
               rxTimer := none
               queue := (s.port p).queue.filter fun i => !i.isReceiving
               returns := []
               builder := if (s.port p).link = .responding then ⟨.idle, none, false, none⟩ else (s.port p).builder
               line :=
                 if (s.port p).link = .responding then { (s.port p).line with status := .cut } else (s.port p).line }
           retire := { s.retire with aborted := min 255 (s.retire.aborted + lost) }
           interrupts := { s.interrupts with line := s.interrupts.line.set p true } }
       exec (.lineDown p) s = .next down.settleDrain ∧
         ((∀ t : Stream, (s.context p t).state ≠ .retiring) →
           exec (.lineDown p) s = .next { down with retire := s.retire })))

/-! ### Bursts and packets -/

/-- R43, R44, R61: a BURST_START in LISTENING with no open burst opens one in HEADER with nothing collected and
clear indicators, and the receive timer starts unless the limit is 0; outside LISTENING it changes nothing. R44,
R47: a BURST_START taken while a burst is open is a BURST_END of that burst followed at once by a BURST_START; where
the close hands over a TURN the port has left LISTENING and that start is ignored. -/
def Obligations.BurstStartOpensABurst : Prop :=
  (∀ (p : Port) (s : State), Operating s →
     ((s.port p).link ≠ .listening → exec (.burstStart p) s = .next s) ∧
     ((s.port p).link = .listening → (s.port p).burst = none →
       exec (.burstStart p) s = .next
         { s with
           ports := s.ports.set p
             { s.port p with
               burst := some ⟨.header [], false, false⟩
               rxTimer := if (s.port p).rxLimit = 0 then none else some (s.port p).rxLimit.toNat } })) ∧
  (∀ (p : Port) (s t : State), Operating s → (s.port p).burst ≠ none → exec (.burstEnd p) s = .next t →
     exec (.burstStart p) s = exec (.burstStart p) t)

/-- R43 to R47: a BURST_END. Outside LISTENING, or with no open burst, it changes nothing. A burst that ends in
HEADER with nothing collected, or in DISCARD, ends normally; one that ends anywhere else, not broken before, loses
its RECEIVING item and raises BURST_BROKEN, with the packet in hand in TAKE, CHECK and SKIP. The timer stops, and a
TURN that was seen is handed over: the port enters TURN_WAIT. Log entry 21, the model's choice: the RECEIVING item
is removed, and counted, before the fault is raised. -/
def Obligations.BurstEndClosesTheBurst : Prop :=
  ∀ (p : Port) (s : State), Operating s →
    ((s.port p).link ≠ .listening ∨ (s.port p).burst = none → exec (.burstEnd p) s = .next s) ∧
    ∀ b : Burst, (s.port p).link = .listening → (s.port p).burst = some b →
      (b.position = .header [] ∨ b.position = .discard → (∀ i ∈ (s.port p).queue, i.isReceiving = false) →
        exec (.burstEnd p) s = .next
          { s with
            ports := s.ports.set p
              { s.port p with
                burst := none
                rxTimer := none
                link := if b.turnSeen then .turnWait else .listening } }) ∧
      (b.position ≠ .header [] → b.position ≠ .discard → b.broken = false →
        exec (.burstEnd p) s = .next
          (let s1 := s.removeReceiving p .drained
           let s2 := (s1.setPort p { s1.port p with burst := none, rxTimer := none }).raise
             ⟨.burstBroken, .port p, b.position.packetInHand.map headerStream, none,
               b.position.packetInHand.map fun d => ⟨headerType d, d⟩⟩
           (s2.setPort p
             { s2.port p with link := if b.turnSeen then .turnWait else (s2.port p).link }).settleDrain))

/-- R43, R44, R46: a CODE_VIOLATION in an open burst outside DISCARD: the RECEIVING item of the burst is removed,
the burst goes to DISCARD, broken, and BURST_BROKEN is raised where the burst was not broken before. In DISCARD,
with no open burst, or outside LISTENING it changes nothing. R62: the expiry of a running receive timer in an open
burst: the RECEIVING item is removed, the burst is closed with its TURN lost, and RX_TIMEOUT is raised. Log entry 3
(the model's choice): with no timer running the event changes nothing. Log entry 21, the model's choice: the
RECEIVING item is removed, and counted, before the fault is raised. -/
def Obligations.CodeViolationAndTimeoutEndTheBurst : Prop :=
  (∀ (p : Port) (s : State), Operating s →
     ((s.port p).link ≠ .listening ∨ (s.port p).burst = none → exec (.codeViolation p) s = .next s) ∧
     ∀ b : Burst, (s.port p).link = .listening → (s.port p).burst = some b →
       (b.position = .discard → exec (.codeViolation p) s = .next s) ∧
       (b.position ≠ .discard → b.broken = false →
         exec (.codeViolation p) s = .next
           (let s1 := s.removeReceiving p .drained
            ((s1.setPort p { s1.port p with burst := some ⟨.discard, b.turnSeen, true⟩ }).raise
              ⟨.burstBroken, .port p, b.position.packetInHand.map headerStream, none,
                b.position.packetInHand.map fun d => ⟨headerType d, d⟩⟩).settleDrain))) ∧
  (∀ (p : Port) (s : State), Operating s →
     ((s.port p).rxTimer = none → exec (.receiveTimeout p) s = .next s) ∧
     ∀ (n : Nat) (b : Burst), (s.port p).rxTimer = some n → (s.port p).burst = some b →
       exec (.receiveTimeout p) s = .next
         (let s1 := s.removeReceiving p .drained
          ((s1.setPort p { s1.port p with burst := none, rxTimer := none }).raise
            ⟨.rxTimeout, .port p, b.position.packetInHand.map headerStream, none,
              b.position.packetInHand.map fun d => ⟨headerType d, d⟩⟩).settleDrain))

/-- R43 to R45: a byte that completes nothing. Outside LISTENING, with no open burst, or in DISCARD it changes
nothing; in HEADER it joins the header buffer; in SKIP it is counted; in CHECK it is the low byte of the received
checksum. R45, R55, R87: a payload byte in TAKE passes to the checksum; the second byte of a pair of a WRITE forms a
cell, low byte first, which enters the slot of the RECEIVING item and is counted; after 2N bytes the position
becomes CHECK. -/
def Obligations.BytesOfAnOpenBurst : Prop :=
  (∀ (p : Port) (b : Byte) (s : State), Operating s →
     ((s.port p).link ≠ .listening ∨ (s.port p).burst = none → exec (.byte p b) s = .next s) ∧
     ∀ u : Burst, (s.port p).link = .listening → (s.port p).burst = some u →
       (u.position = .discard → exec (.byte p b) s = .next s) ∧
       (∀ collected : List Byte, u.position = .header collected → collected.length < 4 →
         exec (.byte p b) s = .next
           (s.setPort p { s.port p with burst := some { u with position := .header (collected ++ [b]) } })) ∧
       (∀ (d : HeaderBits) (owed : Nat), u.position = .skip d (owed + 1) →
         exec (.byte p b) s = .next
           (s.setPort p
             { s.port p with
               burst := some { u with position := if owed = 0 then .header [] else .skip d owed } })) ∧
       (∀ (d : HeaderBits) (sum : Word), u.position = .check d none sum →
         exec (.byte p b) s = .next
           (s.setPort p { s.port p with burst := some { u with position := .check d (some b) sum } }))) ∧
  (∀ (p : Port) (b last : Byte) (s : State) (u : Burst) (d : HeaderBits) (taken : Nat) (sum : Word), Operating s →
     (s.port p).link = .listening → (s.port p).burst = some u → u.position = .take d taken last sum →
     let after : Option Burst :=
       some { u with
         position :=
           if 2 * (headerParameter d).toNat ≤ taken + 1 then .check d none (sumByte sum b)
           else .take d (taken + 1) b (sumByte sum b) }
     (headerType d ≠ 0xA1 ∨ taken % 2 = 0 →
       exec (.byte p b) s = .next (s.setPort p { s.port p with burst := after })) ∧
     ∀ (ahead : List WorkItem) (i : WorkItem) (r : Nat) (k : Fin 2), headerType d = 0xA1 → taken % 2 = 1 →
       (s.port p).queue = ahead ++ [i] → (∀ j ∈ ahead, j.isReceiving = false) → i.state = .receiving r →
       i.slot = some k →
       exec (.byte p b) s = .next
         (s.setPort p
           { s.port p with
             burst := after
             slots := (s.port p).slots.set k ((s.port p).slots.get k ++ [b ++ last])
             queue := ahead ++ [{ i with state := .receiving (r + 1) }] }))

/-- R56, R63, R91, R145: the second byte of a received checksum. A WRITE whose checksum matches becomes READY; one
that does not match is removed and raises CHECKSUM with its context's aperture index and cursor. A PAD that matches
counts in the ACK count; one that does not raises CHECKSUM with neither. The position becomes HEADER. Log entry 21,
the model's choice: the RECEIVING item is removed, and counted, before CHECKSUM is raised. Log entry 26, the model's
choice: where that item was the last unit of a RETIRING context, CHECKSUM carries the cursor from before the context
becomes RETIRED. -/
def Obligations.ChecksumCompared : Prop :=
  ∀ (p : Port) (low high : Byte) (s : State) (u : Burst) (d : HeaderBits) (sum : Word), Operating s →
    (s.port p).link = .listening → (s.port p).burst = some u → u.position = .check d (some low) sum →
    (∀ (ahead : List WorkItem) (i : WorkItem) (r : Nat), headerType d = 0xA1 → high ++ low = sum →
      (s.port p).queue = ahead ++ [i] → (∀ j ∈ ahead, j.isReceiving = false) → i.state = .receiving r →
      exec (.byte p high) s = .next
        (s.setPort p
          { s.port p with
            burst := some { u with position := .header [] }
            queue := ahead ++ [{ i with state := .ready }] })) ∧
    (headerType d = 0xA1 → high ++ low ≠ sum →
      exec (.byte p high) s = .next
        (let s1 := (s.removeReceiving p .drained).raise
           ⟨.checksum, .port p, some (headerStream d),
             (s.context p (headerStream d)).copy.map fun k => ⟨k.aperture, (s.context p (headerStream d)).cursor⟩,
             some ⟨headerType d, d⟩⟩
         (s1.setPort p
           { s1.port p with
             burst := (s1.port p).burst.map fun u => { u with position := .header [] } }).settleDrain)) ∧
    (headerType d ≠ 0xA1 → high ++ low = sum →
      exec (.byte p high) s = .next
        (s.setPort p
          { s.port p with
            burst := some { u with position := .header [] }
            ackCount := min 65535 ((s.port p).ackCount + 1) })) ∧
    (headerType d ≠ 0xA1 → high ++ low ≠ sum →
      exec (.byte p high) s = .next
        (let s1 := s.raise ⟨.checksum, .port p, some (headerStream d), none, some ⟨headerType d, d⟩⟩
         (s1.setPort p
           { s1.port p with
             burst := (s1.port p).burst.map fun u => { u with position := .header [] } }).settleDrain))

/-- R51, R52: the header check code. The check bits are the exclusive OR of the columns of R51 of all data bits that
are 1; the syndrome decides by the table of R52: 0 is clean, a data bit's column corrects that bit, weight 1 a check
bit, and any other value is uncorrectable; bit 7 of the check byte is ignored. "Any single flipped bit gives a
column or a weight-1 syndrome and is corrected. Any two flipped bits give a nonzero syndrome of even weight, which
is neither a column nor of weight 1, so the header is found uncorrectable." -/
def Obligations.HeaderCodeCorrectsOneFlipAndDetectsTwo : Prop :=
  let columns : List (BitVec 7) :=
    [0x70, 0x68, 0x64, 0x62, 0x61, 0x58, 0x54, 0x52, 0x51, 0x4C, 0x4A, 0x49, 0x46, 0x45, 0x43, 0x38,
     0x34, 0x32, 0x31, 0x2C, 0x2A, 0x29, 0x26, 0x25, 0x23, 0x1C, 0x1A, 0x19, 0x16, 0x15, 0x13, 0x0E]
  ((∀ i : Fin 32, columns[i.val]? = some (checkBits (BitVec.twoPow 32 i.val))) ∧
    ∀ a b : HeaderBits, checkBits (a ^^^ b) = checkBits a ^^^ checkBits b) ∧
  (∀ (d : HeaderBits) (check : Byte),
    let y := check.extractLsb' 0 7 ^^^ checkBits d
    (y = 0 → judgeHeader d check = .clean d) ∧
    (∀ i : Fin 32, columns[i.val]? = some y → judgeHeader d check = .corrected (d ^^^ BitVec.twoPow 32 i.val)) ∧
    (∀ k : Fin 7, y = BitVec.twoPow 7 k.val → judgeHeader d check = .corrected d) ∧
    (y ≠ 0 → y ∉ columns → (∀ k : Fin 7, y ≠ BitVec.twoPow 7 k.val) → judgeHeader d check = .uncorrectable)) ∧
  ∀ (d : HeaderBits) (top : BitVec 1),
    let sent : BitVec 39 := checkBits d ++ d
    let judge : BitVec 39 → HeaderVerdict := fun w => judgeHeader (w.extractLsb' 0 32) (top ++ w.extractLsb' 32 7)
    judge sent = .clean d ∧
      (∀ i : Fin 39, judge (sent ^^^ BitVec.twoPow 39 i.val) = .corrected d) ∧
      ∀ i j : Fin 39, i ≠ j → judge (sent ^^^ BitVec.twoPow 39 i.val ^^^ BitVec.twoPow 39 j.val) = .uncorrectable

/-- R45, R52 to R54, R57: the fifth byte of a header completes it. An uncorrectable header raises HDR_UNCORRECTABLE
with the bytes as received, and the rest of the burst is discarded; a corrected one raises HDR_CORRECTED and is then
treated as a clean one. Each good header raises SEQUENCE where the expectation is a number other than its sequence
field, sets the expectation to the field plus 1 modulo 8, and goes on to the format checks and delivery "as if its
number had matched": the suspension check asks for the mode in which the header found the port (R76), before its own
HDR_CORRECTED and SEQUENCE were raised; for HDR_CORRECTED in class 2 this is the reading of log entry 11. -/
def Obligations.CompletedHeaderJudged : Prop :=
  ∀ (p : Port) (b0 b1 b2 b3 check : Byte) (s : State) (u : Burst), Operating s → (s.port p).link = .listening →
    (s.port p).burst = some u → u.position = .header [b0, b1, b2, b3] →
    let sequenced : State → HeaderBits → State := fun s1 d =>
      let s2 := if (s1.port p).expectation = none ∨ (s1.port p).expectation = some (d.extractLsb' 10 3) then s1
        else s1.raise ⟨.sequence, .port p, some (headerStream d), none, some ⟨headerType d, d⟩⟩
      s2.setPort p { s2.port p with expectation := some (d.extractLsb' 10 3 + 1) }
    (∀ d : HeaderBits, judgeHeader (b3 ++ b2 ++ b1 ++ b0) check = .clean d →
      exec (.byte p check) s = .next ((sequenced s d).acceptHeader p (s.port p).mode u.turnSeen d).settleDrain) ∧
    (∀ d : HeaderBits, judgeHeader (b3 ++ b2 ++ b1 ++ b0) check = .corrected d →
      exec (.byte p check) s = .next
        ((sequenced (s.raise ⟨.hdrCorrected, .port p, some (headerStream d), none, some ⟨headerType d, d⟩⟩)
          d).acceptHeader p (s.port p).mode u.turnSeen d).settleDrain) ∧
    (judgeHeader (b3 ++ b2 ++ b1 ++ b0) check = .uncorrectable →
      exec (.byte p check) s = .next
        (let d : HeaderBits := b3 ++ b2 ++ b1 ++ b0
         let s1 := s.raise ⟨.hdrUncorrectable, .port p, some (headerStream d), none, some ⟨headerType d, d⟩⟩
         (s1.setPort p
           { s1.port p with
             burst := (s1.port p).burst.map fun u => { u with position := .discard } }).settleDrain))

/-- R58 to R60, R63, R64: the format checks in order, the suspension check, and the delivery of a NOP, LIMIT, TURN or
PAD. A bad length of a long type discards the rest of the burst; a packet after a TURN, with tag bits 7:5 not zero, or
of a type no head sends is discarded, a long one by its length; each raises FORMAT once. A port that the header found
SUSPENDED discards any packet but a TURN in silence. A NOP counts in the ACK count; a LIMIT sets the return limit to
1..512 or raises BAD_PARAMETER, and counts; a TURN sets the turn-seen indicator; a PAD's payload is taken; START,
STOP, READ and WRITE are offered to the work queue. R57, R76: all this holds as well where the header found the port
RUNNING and its own faults have suspended it, except that a WRITE is removed once it is appended, and its payload and
checksum are skipped: the model's reading, log entry 11. -/
def Obligations.GoodHeaderDelivered : Prop :=
  ∀ (p : Port) (found : Mode) (turnSeen : Bool) (d : HeaderBits) (s : State) (u : Burst), (s.port p).burst = some u →
    let length := (headerParameter d).toNat
    let long := (headerType d).getLsbD 7
    let past : Position := if long then .skip d (2 * length + 2) else .header []
    let moved : State → Position → State := fun s1 x =>
      s1.setPort p { s1.port p with burst := (s1.port p).burst.map fun u => { u with position := x } }
    let format := s.raise ⟨.format, .port p, some (headerStream d), none, some ⟨headerType d, d⟩⟩
    if long ∧ ¬ (1 ≤ length ∧ length ≤ 1024) then s.acceptHeader p found turnSeen d = moved format .discard
    else if turnSeen ∨ d.extractLsb' 13 3 ≠ 0 ∨
        headerType d ∉ ([0x00, 0x21, 0x22, 0x23, 0x24, 0x2F, 0xA1, 0xA2] : List Byte) then
      s.acceptHeader p found turnSeen d = moved format past
    else if found = .suspended ∧ headerType d ≠ 0x2F then
      s.acceptHeader p found turnSeen d = s.setPort p { s.port p with burst := some { u with position := past } }
    else
      (headerType d = 0x00 →
        s.acceptHeader p found turnSeen d =
          s.setPort p
            { s.port p with
              ackCount := min 65535 ((s.port p).ackCount + 1)
              burst := some { u with position := .header [] } }) ∧
      (headerType d = 0x24 → 1 ≤ length → length ≤ 512 →
        s.acceptHeader p found turnSeen d =
          s.setPort p
            { s.port p with
              returnLimit := length
              ackCount := min 65535 ((s.port p).ackCount + 1)
              burst := some { u with position := .header [] } }) ∧
      (headerType d = 0x24 → ¬ (1 ≤ length ∧ length ≤ 512) →
        s.acceptHeader p found turnSeen d =
          (let s1 := s.raise ⟨.badParameter, .port p, some (headerStream d), none, some ⟨headerType d, d⟩⟩
           moved (s1.setPort p { s1.port p with ackCount := min 65535 ((s1.port p).ackCount + 1) }) (.header []))) ∧
      (headerType d = 0x2F →
        s.acceptHeader p found turnSeen d =
          s.setPort p
            { s.port p with burst := some { u with position := .header [], turnSeen := true } }) ∧
      (headerType d = 0xA2 →
        s.acceptHeader p found turnSeen d =
          s.setPort p { s.port p with burst := some { u with position := .take d 0 0 0xFFFF } }) ∧
      (headerType d = 0x21 → s.acceptHeader p found turnSeen d = s.offerPacket p .start d) ∧
      (headerType d = 0x22 → s.acceptHeader p found turnSeen d = s.offerPacket p .stop d) ∧
      (headerType d = 0x23 → s.acceptHeader p found turnSeen d = s.offerPacket p .read d) ∧
      (headerType d = 0xA1 → (s.port p).mode = .running →
        s.acceptHeader p found turnSeen d = s.offerPacket p .write d) ∧
      (headerType d = 0xA1 → (s.port p).mode = .suspended →
        s.acceptHeader p found turnSeen d =
          (let s1 := (s.offerPacket p .write d).removeReceiving p .aborted
           s1.setPort p { s1.port p with burst := some { u with position := .skip d (2 * length + 2) } })) ∧
      (headerType d = 0xA1 → (s.port p).mode = .suspended → (∀ i ∈ (s.port p).queue, i.isReceiving = false) →
        s.acceptHeader p found turnSeen d =
          (let s1 := s.offerPacket p .write d
           s1.setPort p
            { s1.port p with
              queue := (s.port p).queue
              burst := some { u with position := .skip d (2 * length + 2) } }))

/-- R60, R85, R87 to R89, R101: the arrival checks of a work packet in order. The context RETIRING rejects it with
RETIRED; a READ count outside 1..1024 with BAD_PARAMETER; four items in the queue, or two WRITE items for a WRITE,
with OVERRUN: a rejected packet changes no queue, and a rejected WRITE is skipped by its length. Otherwise the item
joins the tail: a WRITE RECEIVING, with a payload slot that no item holds, emptied (the lower one where both are
free, log entry 7), any other READY. -/
def Obligations.WorkPacketArrival : Prop :=
  ∀ (p : Port) (kind : ItemKind) (d : HeaderBits) (s : State) (u : Burst), (s.port p).burst = some u →
    headerIsLong d = decide (kind = .write) →
    let context := s.context p (headerStream d)
    let length := (headerParameter d).toNat
    let writes := (s.port p).queue.filter fun i => i.kind == .write
    let rejected : FaultKind → State := fun k =>
      let s1 := s.raise
        ⟨k, .port p, some (headerStream d), context.copy.map fun c => ⟨c.aperture, context.cursor⟩,
          some ⟨headerType d, d⟩⟩
      s1.setPort p
        { s1.port p with
          burst := (s1.port p).burst.map fun u =>
            { u with position := if kind = .write then .skip d (2 * length + 2) else .header [] } }
    if context.state = .retiring then s.offerPacket p kind d = rejected .retired
    else if kind = .read ∧ ¬ (1 ≤ length ∧ length ≤ 1024) then s.offerPacket p kind d = rejected .badParameter
    else if 4 ≤ (s.port p).queue.length ∨ (kind = .write ∧ 2 ≤ writes.length) then
      s.offerPacket p kind d = rejected .overrun
    else if kind = .write then
      ∃ k : Fin 2, (k = 1 → ∃ i ∈ (s.port p).queue, i.slot = some 0) ∧
        ((∀ i ∈ (s.port p).queue, i.kind = .write ↔ i.slot ≠ none) → (∀ i ∈ (s.port p).queue, i.slot ≠ some k)) ∧
        s.offerPacket p kind d =
          s.setPort p
            { s.port p with
              burst := some { u with position := .take d 0 0 0xFFFF }
              queue := (s.port p).queue ++
                [⟨.write, headerStream d, headerParameter d, d, .receiving 0, some k⟩]
              slots := (s.port p).slots.set k [] }
    else
      s.offerPacket p kind d =
        s.setPort p
          { s.port p with
            burst := some { u with position := .header [] }
            queue := (s.port p).queue ++ [⟨kind, headerStream d, headerParameter d, d, .ready, none⟩] }

/-! ### Geometry, cursors and work items -/

/-- R8, R9, R17: "Distinct offsets name distinct cells, and every named cell lies in the rectangle of the record":
the column of offset k lies between the first and last column, and its row fewer than height rows after the first,
with wrap. The marking cell is the one at offset mark times line length minus 1 of a mark that is not 0. -/
def Obligations.OffsetsNameDistinctCellsOfTheRectangle : Prop :=
  ∀ g : Geometry, g.firstColumn.toNat ≤ g.lastColumn.toNat →
    let width := g.lastColumn.toNat - g.firstColumn.toNat + 1
    let height := (g.lastRow - g.firstRow).toNat + 1
    g.size = width * height ∧ g.size ≤ 262144 ∧
    (∀ k : Nat, k < g.size →
      (g.order = .rows →
        (g.rowAt k).toNat = (g.firstRow.toNat + k / width) % 256 ∧
          (g.columnAt k).toNat = g.firstColumn.toNat + k % width) ∧
      (g.order = .columns →
        (g.rowAt k).toNat = (g.firstRow.toNat + k % height) % 256 ∧
          (g.columnAt k).toNat = g.firstColumn.toNat + k / height) ∧
      g.firstColumn.toNat ≤ (g.columnAt k).toNat ∧ (g.columnAt k).toNat ≤ g.lastColumn.toNat ∧
      (g.rowAt k - g.firstRow).toNat < height) ∧
    (∀ k l : Nat, k < g.size → l < g.size → g.rowAt k = g.rowAt l → g.columnAt k = g.columnAt l → k = l) ∧
    ∀ k : Nat, g.isMarking k = true ↔
      g.mark ≠ 0 ∧
        k + 1 = g.mark.toNat * (match g.order with
          | .rows => width
          | .columns => height)

/-- R36, R37: one advance of a context's cursor under its copy. Below the last cell it moves by one; at the last
cell the STOP policy leaves it at size, where an OPEN context, head or host, becomes ENDED and a RETIRING one sets
its end indicator, and the LOOP policy sets it to 0 and counts a pass, modulo 256. -/
def Obligations.CursorAdvancesByPolicy : Prop :=
  (∀ (c : HeadContext) (k : Copy), c.copy = some k →
    (c.cursor + 1 < k.geometry.size → c.advance = { c with cursor := c.cursor + 1 }) ∧
    (c.cursor + 1 = k.geometry.size → k.geometry.policy = .loop →
      c.advance = { c with cursor := 0, passes := c.passes + 1 }) ∧
    (c.cursor + 1 = k.geometry.size → k.geometry.policy = .stop → c.state = .opened →
      c.advance = { c with cursor := k.geometry.size, state := .ended }) ∧
    (c.cursor + 1 = k.geometry.size → k.geometry.policy = .stop → c.state = .retiring →
      c.advance = { c with cursor := k.geometry.size, endIndicator := true })) ∧
  ∀ (c : HostContext) (k : Copy), c.copy = some k →
    (c.cursor + 1 < k.geometry.size → c.advance = { c with cursor := c.cursor + 1 }) ∧
    (c.cursor + 1 = k.geometry.size → k.geometry.policy = .loop →
      c.advance = { c with cursor := 0, passes := c.passes + 1 }) ∧
    (c.cursor + 1 = k.geometry.size → k.geometry.policy = .stop →
      c.advance = { c with cursor := k.geometry.size, state := .ended })

/-- R81, R93, R145: an item removed from the head of a work queue at the end of its execution counts in the ACK
count, which saturates at 65535, and as drained if its context is RETIRING. R46, R62, R69, R92, R145: the removal of
a port's RECEIVING item, the last of its queue: its slot is free with it, and its unit is counted in the way given
if its context is RETIRING. R68, R145, R146: a disable during a drain: the work items of the port's RETIRING
contexts that were not already leaving, and a RETURN being cut for one, count as aborted. Log entry 27, the model's
choice: the counts still stand in the engine where the disable ends the drain. -/
def Obligations.EndedUnitsAreCountedOnce : Prop :=
  (∀ (p : Port) (s : State) (i : WorkItem) (rest : List WorkItem), (s.port p).queue = i :: rest →
     s.finishHead p =
       { s with
         ports := s.ports.set p { s.port p with queue := rest, ackCount := min 65535 ((s.port p).ackCount + 1) }
         retire :=
           if (s.context p i.stream).state = .retiring then
             { s.retire with drained := min 255 (s.retire.drained + 1) }
           else s.retire }) ∧
  (∀ (p : Port) (s : State) (ahead : List WorkItem) (i : WorkItem) (how : UnitEnd),
     (∀ j ∈ ahead, j.isReceiving = false) →
     ((s.port p).queue = ahead → s.removeReceiving p how = s) ∧
     ((s.port p).queue = ahead ++ [i] → i.isReceiving = true →
       s.removeReceiving p how =
         { s with
           ports := s.ports.set p { s.port p with queue := ahead }
           retire :=
             if (s.context p i.stream).state = .retiring then
               match how with
               | .drained => { s.retire with drained := min 255 (s.retire.drained + 1) }
               | .aborted => { s.retire with aborted := min 255 (s.retire.aborted + 1) }
             else s.retire })) ∧
  (∀ (v : Word) (p : Port) (s t : State), BusFree s → v.getLsbD 8 = false → (s.port p).enabled = true →
     v.getLsbD p.val = false → (∀ q : Port, q ≠ p → (s.port q).enabled = v.getLsbD q.val) →
     s.retire.phase = .draining → s.retire.aborted ≤ 255 → exec (.portDisable v) s = .next t →
     (t.port p).queue = (s.port p).queue.filterMap (fun i =>
         match i.state with
         | .receiving _ => none
         | .ready => none
         | .committing c inHand leaving counted =>
           if inHand then
             some { i with
               state := .committing c true true
                 (counted || (!leaving && (s.context p i.stream).state == .retiring)) }
           else none) ∧
       t.retire.drained = s.retire.drained ∧
       t.retire.aborted = min 255 (s.retire.aborted +
         ((s.port p).queue.filter (fun i => !i.isLeaving && (s.context p i.stream).state == .retiring)).length +
         match (s.port p).builder.current with
         | some r =>
           if (s.port p).link = .responding ∧ (s.context p r.stream).state = .retiring then 1 else 0
         | none => 0))

/-- R29 to R33: START at the head of the queue. Parameter, binding and granted rights are checked in this order. An
origin START, or a resume that does not find its walk, reloads the context from its slot's entry (a RETIRING context
stays RETIRING); the latter raises RESUME_LOST with what the context held before. A resume that finds its walk
changes nothing. Log entry 9, the model's choice: a START that reloads the context ends the walk that an outstanding
request of the stream was posted for, as R189 says of UNBIND. -/
def Obligations.StartLoadsOrResumes : Prop :=
  ∀ (p : Port) (s : State) (i : WorkItem) (rest : List WorkItem), Operating s →
    (s.port p).link = .waitSync ∨ (s.port p).link = .listening ∨ (s.port p).link = .turnWait →
    (s.port p).queue = i :: rest → i.kind = .start → i.state = .ready →
    let c := s.context p i.stream
    let claim : FaultKind → Claim := fun kind =>
      ⟨kind, .port p, some i.stream, c.copy.map fun k => ⟨k.aperture, c.cursor⟩,
        some ⟨headerType i.capture, i.capture⟩⟩
    let result := exec (.startItem p) s
    (i.parameter ≠ 0 → i.parameter ≠ 1 →
      result = .next ((s.raise (claim .badParameter)).finishHead p).settleDrain) ∧
    (i.parameter = 0 ∨ i.parameter = 1 → s.slot p i.stream = none →
      result = .next ((s.raise (claim .notBound)).finishHead p).settleDrain) ∧
    ∀ b : Binding, i.parameter = 0 ∨ i.parameter = 1 → s.slot p i.stream = some b →
      let entry := s.aperture b.aperture
      let granted : Rights := ⟨b.rights.read && entry.rights.read, b.rights.write && entry.rights.write⟩
      let loaded : State :=
        (s.setRequest p ((s.request p).map fun r =>
          if r.stream = some i.stream then { r with standing := false } else r)).setContext p i.stream
          ⟨if c.state = .retiring then .retiring else .opened,
            some ⟨b.aperture, entry.geometry, granted, entry.generation⟩, false, 0, 0⟩
      let found : Prop :=
        (c.state = .opened ∨ c.state = .ended ∨ c.state = .retiring) ∧
          ∃ k : Copy, c.copy = some k ∧ k.aperture = b.aperture ∧ k.generation = entry.generation
      (granted = ⟨false, false⟩ → result = .next ((s.raise (claim .rights)).finishHead p).settleDrain) ∧
      (granted ≠ ⟨false, false⟩ → i.parameter = 0 → result = .next (loaded.finishHead p).settleDrain) ∧
      (granted ≠ ⟨false, false⟩ → i.parameter = 1 → found → result = .next (s.finishHead p).settleDrain) ∧
      (granted ≠ ⟨false, false⟩ → i.parameter = 1 → ¬ found →
        result = .next ((loaded.raise (claim .resumeLost)).finishHead p).settleDrain)

/-- R29, R34: STOP at the head of the queue: NOT_BOUND without a binding; an OPEN or ENDED context becomes EMPTY;
EMPTY raises RIGHTS and RETIRED raises RETIRED; a RETIRING context is left as it is. Log entry 9, the model's choice: a
STOP that empties the context ends the walk that an outstanding request of the stream was posted for. -/
def Obligations.StopEmptiesTheContext : Prop :=
  ∀ (p : Port) (s : State) (i : WorkItem) (rest : List WorkItem), Operating s →
    (s.port p).link = .waitSync ∨ (s.port p).link = .listening ∨ (s.port p).link = .turnWait →
    (s.port p).queue = i :: rest → i.kind = .stop → i.state = .ready →
    let c := s.context p i.stream
    let claim : FaultKind → Claim := fun kind =>
      ⟨kind, .port p, some i.stream, c.copy.map fun k => ⟨k.aperture, c.cursor⟩,
        some ⟨headerType i.capture, i.capture⟩⟩
    let result := exec (.stopItem p) s
    (s.slot p i.stream = none → result = .next ((s.raise (claim .notBound)).finishHead p).settleDrain) ∧
    (s.slot p i.stream ≠ none → c.state = .empty →
      result = .next ((s.raise (claim .rights)).finishHead p).settleDrain) ∧
    (s.slot p i.stream ≠ none → c.state = .retired →
      result = .next ((s.raise (claim .retired)).finishHead p).settleDrain) ∧
    (s.slot p i.stream ≠ none → c.state = .retiring → result = .next (s.finishHead p).settleDrain) ∧
    (s.slot p i.stream ≠ none → c.state = .opened ∨ c.state = .ended →
      result = .next
        ((((s.setRequest p ((s.request p).map fun r =>
          if r.stream = some i.stream then { r with standing := false } else r)).setContext p i.stream
            ⟨.empty, none, false, 0, 0⟩).finishHead p).settleDrain))

/-- R29, R102, R103: READ at the head of the queue: refused with the fault of the table of R29; otherwise, with READ
granted, it joins the return queue of a RUNNING port with fewer than 4 entries, raises OVERRUN where there are 4,
and joins nothing on a SUSPENDED port. -/
def Obligations.ReadJoinsTheReturnQueue : Prop :=
  ∀ (p : Port) (s : State) (i : WorkItem) (rest : List WorkItem), Operating s →
    (s.port p).link = .waitSync ∨ (s.port p).link = .listening ∨ (s.port p).link = .turnWait →
    (s.port p).queue = i :: rest → i.kind = .read → i.state = .ready →
    let c := s.context p i.stream
    let claim : FaultKind → Claim := fun kind =>
      ⟨kind, .port p, some i.stream, c.copy.map fun k => ⟨k.aperture, c.cursor⟩,
        some ⟨headerType i.capture, i.capture⟩⟩
    let refused : FaultKind → Prop := fun kind =>
      exec (.readItem p) s = .next ((s.raise (claim kind)).finishHead p).settleDrain
    (s.slot p i.stream = none → refused .notBound) ∧
    (s.slot p i.stream ≠ none → c.state = .empty → refused .rights) ∧
    (s.slot p i.stream ≠ none → c.state = .ended → refused .apertureEnd) ∧
    (s.slot p i.stream ≠ none → c.state = .retiring ∨ c.state = .retired → refused .retired) ∧
    ∀ k : Copy, s.slot p i.stream ≠ none → c.state = .opened → c.copy = some k →
      (k.granted.read = false → refused .rights) ∧
      (k.granted.read = true → (s.port p).mode = .suspended →
        exec (.readItem p) s = .next (s.finishHead p).settleDrain) ∧
      (k.granted.read = true → (s.port p).mode = .running → 4 ≤ (s.port p).returns.length → refused .overrun) ∧
      (k.granted.read = true → (s.port p).mode = .running → (s.port p).returns.length < 4 →
        exec (.readItem p) s = .next
          (((s.setPort p
            { s.port p with
              returns := (s.port p).returns ++ [⟨i.stream, i.parameter.toNat, i.capture⟩] }).finishHead p).settleDrain))

/-- R29, R94, R95, R189: WRITE at the head of the queue: refused with the fault of the table of R29 and removed;
otherwise COMMITTING with no cell committed, its request for the cell at the cursor posted with payload cell 0 where
no request of the port is outstanding, and to be posted later where one is (R3). A parameter of 0 names no cell and
cannot arrive (R58). -/
def Obligations.WriteBeginsItsCommit : Prop :=
  ∀ (p : Port) (s : State) (i : WorkItem) (rest : List WorkItem), Operating s →
    (s.port p).link = .waitSync ∨ (s.port p).link = .listening ∨ (s.port p).link = .turnWait →
    (s.port p).queue = i :: rest → i.kind = .write → i.state = .ready →
    let c := s.context p i.stream
    let refused : FaultKind → Prop := fun kind =>
      exec (.writeItem p) s = .next
        ((s.raise
          ⟨kind, .port p, some i.stream, c.copy.map fun k => ⟨k.aperture, c.cursor⟩,
            some ⟨headerType i.capture, i.capture⟩⟩).finishHead p).settleDrain
    (s.slot p i.stream = none → refused .notBound) ∧
    (s.slot p i.stream ≠ none → c.state = .empty → refused .rights) ∧
    (s.slot p i.stream ≠ none → c.state = .ended ∨ (c.state = .retiring ∧ c.endIndicator = true) →
      refused .apertureEnd) ∧
    (s.slot p i.stream ≠ none → c.state = .retired → refused .retired) ∧
    ∀ k : Copy, s.slot p i.stream ≠ none → c.state = .opened ∨ (c.state = .retiring ∧ c.endIndicator = false) →
      c.copy = some k →
      (k.granted.write = false → refused .rights) ∧
      (k.granted.write = true → i.parameter ≠ 0 → c.cursor < k.geometry.size →
        (s.request p = none → ∀ slot : Fin 2, i.slot = some slot →
          exec (.writeItem p) s = .next
            ((s.setPort p
              { s.port p with queue := { i with state := .committing 0 true false false } :: rest }).setRequest p
              (some
                { access := .write (((s.port p).slots.get slot).getD 0 0)
                  row := k.geometry.rowAt c.cursor
                  column := k.geometry.columnAt c.cursor
                  stream := some i.stream
                  aperture := k.aperture
                  generation := k.generation
                  marking := k.geometry.isMarking c.cursor
                  wanted := true
                  standing := true }))) ∧
        (s.request p ≠ none →
          exec (.writeItem p) s = .next
            (s.setPort p
              { s.port p with queue := { i with state := .committing 0 false false false } :: rest })))

/-! ### The store arbiter -/

/-- R4: with no grant being performed, ARBITER_GRANT grants the first requester with an outstanding request in the
cyclic order P0, P1, P2, P3, H, from the one after the pointer, and the pointer names it; while a grant is being
performed, or with no request, it changes nothing. R5: "a posted request is granted after at most four other
grants": an outstanding request stays through a choice of the arbiter, and each choice that grants another requester
brings it nearer in the cyclic order, of five places. -/
def Obligations.ArbiterGrantsInCyclicOrder : Prop :=
  (∀ s : State, Operating s →
     let requested : Source → Bool := fun q =>
       match q with
       | .port p => (s.request p).isSome
       | .host => s.arbiter.hostRequest.isSome
     let away : Source → Nat := fun q => (q.number.val + 4 - s.arbiter.pointer.number.val) % 5
     (s.arbiter.granting ≠ none ∨ (∀ q : Source, requested q = false) → exec .arbiterGrant s = .next s) ∧
     ∀ q : Source, s.arbiter.granting = none → requested q = true →
       (∀ q' : Source, requested q' = true → away q ≤ away q') →
       exec .arbiterGrant s = .next { s with arbiter := { s.arbiter with pointer := q, granting := some q } }) ∧
  (∀ (s t : State) (q mine : Source), Operating s → s.arbiter.granting = none → exec .arbiterGrant s = .next t →
     t.arbiter.granting = some q → q ≠ mine →
     (match mine with
      | .port p => (s.request p).isSome
      | .host => s.arbiter.hostRequest.isSome) = true →
     t.arbiter.portRequests = s.arbiter.portRequests ∧ t.arbiter.hostRequest = s.arbiter.hostRequest ∧
       (mine.number.val + 4 - t.arbiter.pointer.number.val) % 5 <
         (mine.number.val + 4 - s.arbiter.pointer.number.val) % 5 ∧
       (mine.number.val + 4 - s.arbiter.pointer.number.val) % 5 ≤ 4)

/-- R1, R2, R18, R189: the performed write grant of a port: its cell holds the value of the request, every other
cell what it held, and the mark flag of the carried aperture is set where the cell is the carried copy's marking
cell and the entry is DEFINED with the carried generation; no other flag changes. -/
def Obligations.PortWriteGrantStoresOneCell : Prop :=
  ∀ (p : Port) (s : State) (r : Request) (v : Word), Operating s → StoreCanonical s →
    s.arbiter.granting = some (.port p) → s.request p = some r → r.access = .write v →
    ∃ t : State, exec .grantPerformed s = .next t ∧
      (∀ (row : BitVec 8) (column : BitVec 10),
        t.cell row column = if row = r.row ∧ column = r.column then v else s.cell row column) ∧
      (∀ n : ApIndex, t.marks.getLsbD n.val =
        (s.marks.getLsbD n.val ||
          (decide (n = r.aperture) && r.marking && (s.aperture n).isDefined &&
            (s.aperture n).generation == r.generation)))

/-- R35, R36, R95 to R98: the performed write grant of a commit. The cell is written and marked, the context's
cursor advances where its walk stands and it is OPEN or RETIRING, and one cell more is committed. With all N cells
committed the item leaves; at the end of a STOP copy it raises APERTURE_END with the offset at size and leaves;
otherwise it posts the request for its next cell at the cursor. R69, R99, R145, R190: an item that was removed while
its cell in hand was outstanding keeps its place until the grant: the cell is written, the item leaves, and it
counts as aborted if its context is RETIRING and it has not been counted; the ACK count does not change. Log entry
27, the model's choice: the counts still stand in the engine where this grant ends the drain. -/
def Obligations.CommitGoesOnByGrants : Prop :=
  (∀ (p : Port) (s : State) (i : WorkItem) (rest : List WorkItem) (r : Request) (v : Word) (j : Nat) (counted : Bool),
     Operating s → s.arbiter.granting = some (.port p) → s.request p = some r → r.access = .write v →
     (s.port p).queue = i :: rest → i.state = .committing j true false counted → r.stream = some i.stream →
     let c := s.context p i.stream
     let c' := if r.standing = true ∧ (c.state = .opened ∨ c.state = .retiring) then c.advance else c
     let marked := r.marking = true ∧ (s.aperture r.aperture).isDefined = true ∧
       (s.aperture r.aperture).generation = r.generation
     let s1 : State :=
       ({ s.writeCell r.row r.column v with
           arbiter := { s.arbiter with granting := none, portRequests := s.arbiter.portRequests.set p none }
           marks := if marked then s.marks ||| BitVec.twoPow 32 r.aperture.val else s.marks
           ports := s.ports.set p
             { s.port p with
               queue := { i with state := .committing (j + 1) false false counted } :: rest } } :
         State).setContext p i.stream c'
     (i.parameter.toNat ≤ j + 1 → exec .grantPerformed s = .next (s1.finishHead p).settleDrain) ∧
     ∀ k : Copy, j + 1 < i.parameter.toNat → c'.copy = some k →
       (k.geometry.policy = .stop → k.geometry.size ≤ c'.cursor →
         exec .grantPerformed s = .next
           ((s1.raise
             ⟨.apertureEnd, .port p, some i.stream, some ⟨k.aperture, c'.cursor⟩,
               some ⟨headerType i.capture, i.capture⟩⟩).finishHead p).settleDrain) ∧
       (∀ slot : Fin 2, i.slot = some slot → c'.cursor < k.geometry.size →
         exec .grantPerformed s = .next
           ((s1.setPort p
             { s1.port p with
               queue := { i with state := .committing (j + 1) true false counted } :: rest }).setRequest p
             (some
               { access := .write (((s.port p).slots.get slot).getD (j + 1) 0)
                 row := k.geometry.rowAt c'.cursor
                 column := k.geometry.columnAt c'.cursor
                 stream := some i.stream
                 aperture := k.aperture
                 generation := k.generation
                 marking := k.geometry.isMarking c'.cursor
                 wanted := true
                 standing := true })))) ∧
  (∀ (p : Port) (s t : State) (i : WorkItem) (rest : List WorkItem) (r : Request) (v : Word) (j : Nat)
     (inHand counted : Bool), Operating s → s.arbiter.granting = some (.port p) → s.request p = some r →
     r.access = .write v → (s.port p).queue = i :: rest → i.state = .committing j inHand true counted →
     (∀ x ∈ rest, x.state = .ready ∨ ∃ n : Nat, x.state = .receiving n) → exec .grantPerformed s = .next t →
     t.store = (s.writeCell r.row r.column v).store ∧ (t.port p).queue = rest ∧
       (t.port p).ackCount = (s.port p).ackCount ∧ t.request p = none ∧ t.retire.drained = s.retire.drained ∧
       t.retire.aborted =
         if counted = false ∧ (s.context p i.stream).state = .retiring then min 255 (s.retire.aborted + 1)
         else s.retire.aborted)

/-- R36, R112, R118: the performed read grant of a RETURN being sent: the value of the cell joins the packet where
it is still wanted, the context's cursor advances where its walk stands and it is OPEN or RETIRING, and the builder
posts the request for the next cell while cells are left to read. A cut or zero-filled RETURN's value is discarded.
Log entry 9, the model's choice: the grant of a read whose RETURN was cut advances the cursor on the same two
conditions. R3: a requester posts its next request after the grant of the previous one, so what waited for the late
grant of a cut RETURN is posted then. Log entry 10, the model's choice: a commit that waited for it goes on at the
cursor as it then stands, and ends with APERTURE_END at the end of a STOP copy. Log entry 24, the model's choice: a
RETURN that waited for it posts its next cell at the cursor as it then stands, and posts nothing at the end of a STOP
copy. -/
def Obligations.ReadGrantPlacesACell : Prop :=
  ∀ (p : Port) (s : State) (r : Request) (t : Stream), Operating s → s.arbiter.granting = some (.port p) →
    s.request p = some r → r.access = .read → r.stream = some t →
    let c := s.context p t
    let c' := if r.standing = true ∧ (c.state = .opened ∨ c.state = .retiring) then c.advance else c
    let s1 : State :=
      ({ s with
          arbiter := { s.arbiter with granting := none, portRequests := s.arbiter.portRequests.set p none } } :
        State).setContext p t c'
    let moved : Stream → HeadContext := fun u => if u = t then c' else s.context p u
    let posted : Stream → Access → Copy → Request := fun u access k =>
      { access := access
        row := k.geometry.rowAt (moved u).cursor
        column := k.geometry.columnAt (moved u).cursor
        stream := some u
        aperture := k.aperture
        generation := k.generation
        marking := k.geometry.isMarking (moved u).cursor
        wanted := true
        standing := true }
    ((s.port p).builder.current = none →
      (∀ (i : WorkItem) (rest : List WorkItem) (j : Nat) (counted : Bool), (s.port p).queue = i :: rest →
        i.state ≠ .committing j false false counted) →
      exec .grantPerformed s = .next s1.settleDrain) ∧
    (∀ (i : WorkItem) (rest : List WorkItem) (j : Nat) (counted : Bool), (s.port p).builder.current = none →
      r.wanted = false → (s.port p).queue = i :: rest → i.state = .committing j false false counted →
      (i.parameter.toNat ≤ j → exec .grantPerformed s = .next (s1.finishHead p).settleDrain) ∧
      ∀ k : Copy, j < i.parameter.toNat → (moved i.stream).copy = some k →
        (k.geometry.policy = .stop → k.geometry.size ≤ (moved i.stream).cursor →
          exec .grantPerformed s = .next
            ((s1.raise
              ⟨.apertureEnd, .port p, some i.stream, some ⟨k.aperture, (moved i.stream).cursor⟩,
                some ⟨headerType i.capture, i.capture⟩⟩).finishHead p).settleDrain) ∧
        ∀ slot : Fin 2, i.slot = some slot → (moved i.stream).cursor < k.geometry.size →
          exec .grantPerformed s = .next
            ((s1.setPort p
              { s.port p with queue := { i with state := .committing j true false counted } :: rest }).setRequest p
              (some (posted i.stream (.write (((s.port p).slots.get slot).getD j 0)) k)))) ∧
    ∀ x : CurrentReturn, (s.port p).builder.current = some x → (s.port p).queue = [] →
      (r.wanted = false → x.zeroFilled = true ∨ x.length ≤ x.cells.length →
        exec .grantPerformed s = .next s1.settleDrain) ∧
      (∀ k : Copy, r.wanted = false → x.zeroFilled = false → x.cells.length < x.length →
        (moved x.stream).copy = some k →
        ((moved x.stream).cursor < k.geometry.size →
          exec .grantPerformed s = .next (s1.setRequest p (some (posted x.stream .read k)))) ∧
        (k.geometry.size ≤ (moved x.stream).cursor → exec .grantPerformed s = .next s1)) ∧
      (x.stream = t → r.wanted = true → x.zeroFilled = false →
        let x' := { x with cells := x.cells ++ [s.cell r.row r.column] }
        let s2 := s1.setPort p { s.port p with builder := { (s.port p).builder with current := some x' } }
        (x.length ≤ x.cells.length + 1 → exec .grantPerformed s = .next s2) ∧
        ∀ k : Copy, x.cells.length + 1 < x.length → c'.copy = some k → c'.cursor < k.geometry.size →
          exec .grantPerformed s = .next (s2.setRequest p (some (posted t .read k))))

/-! ### Responses -/

/-- R73, R108, R114: a port in TURN_WAIT with an empty work queue enters RESPONDING and begins its burst in the
RETURNS phase; with no entry in its return queue that phase ends at once with the snapshot (log entry 16, the
model's choice of event). In any other state the event changes nothing (log entry 3). The builder of a port that is
not RESPONDING is IDLE (PortsKeptByEveryStep). R80, R109, R114, R115: the end of the RETURNS phase, when the builder
finds the return queue empty and sends no RETURN: the snapshot is the pending report flags, with SUSPENDED while the
port is SUSPENDED; with no flag in it and a packet begun in this burst the close follows, otherwise the report
phase. -/
def Obligations.ResponseStartsAndReturnsPhaseEnds : Prop :=
  (∀ (p : Port) (s : State), Operating s →
     ((s.port p).link ≠ .turnWait ∨ (s.port p).queue ≠ [] → exec (.responseStart p) s = .next s) ∧
     ((s.port p).link = .turnWait → (s.port p).queue = [] → (s.port p).builder = ⟨.idle, none, false, none⟩ →
       exec (.responseStart p) s = .next
         (s.setPort p
           { s.port p with
             link := .responding
             line := ⟨.sending, []⟩
             builder :=
               if (s.port p).returns = [] then
                 ⟨.report, none, false,
                   some (match (s.port p).mode with
                     | .running => (s.port p).reportFlags
                     | .suspended => (s.port p).reportFlags ||| 0x2000)⟩
               else ⟨.returns, none, false, none⟩ }))) ∧
  (∀ (p : Port) (s : State),
     let x := s.port p
     let flags := match x.mode with
       | .running => x.reportFlags
       | .suspended => x.reportFlags ||| 0x2000
     (x.builder.phase ≠ .returns ∨ x.builder.current ≠ none ∨ x.returns ≠ [] → s.endReturnsIfDone p = s) ∧
     (x.builder.phase = .returns → x.builder.current = none → x.returns = [] →
       s.endReturnsIfDone p =
         s.setPort p
           { x with
             builder := { x.builder with
               snapshot := some flags
               phase := if flags = 0 ∧ x.builder.packetSent = true then .closing else .report } }))

/-- R109, R110: in the RETURNS phase with no RETURN being sent, the head entry of the return queue is taken and
rechecked. A refused entry is dropped: it raises its fault with the type READ and the entry's capture, and the phase
ends if the queue is then empty. With no entry the phase ends. R111, R112, R65, R82, R189: a taken entry that stands
is sized: n is the least of its count, the return limit and, under a STOP copy, the cells remaining. A shortfall
raises TRUNCATED, and then APERTURE_END where the end of a STOP copy had a part in it. The RETURN of n cells begins:
its header carries the response sequence counter, which advances, and the request for its first cell is posted where
no request of the port is outstanding. R75, R76, R80: where one of the two faults is of class 2 the port is suspended
before the RETURN is begun: none is begun, and the RETURNS phase ends with SUSPENDED in the snapshot. Log entry 12,
the model's choice: the entry is lost with the rest of the return queue, with no header sent. Log entry 25, the model's
choice: SUSPENDED is raised right after its cause, so between the TRUNCATED of class 2 and the APERTURE_END of one
sizing. The port is RUNNING, as one with a return entry is (PortsKeptByEveryStep). -/
def Obligations.TakenEntryIsDroppedOrServed : Prop :=
  (∀ (p : Port) (s : State), Operating s → (s.port p).builder.phase = .returns → (s.port p).builder.current = none →
     ((s.port p).returns = [] → exec (.returnEntryTake p) s = .next (s.endReturnsIfDone p)) ∧
     ∀ (e : ReturnEntry) (rest : List ReturnEntry), (s.port p).returns = e :: rest →
       let c := s.context p e.stream
       let dropped : FaultKind → Prop := fun kind =>
         exec (.returnEntryTake p) s = .next
           ((((s.setPort p { s.port p with returns := rest }).raise
             ⟨kind, .port p, some e.stream, c.copy.map fun k => ⟨k.aperture, c.cursor⟩,
               some ⟨headerType e.capture, e.capture⟩⟩).endReturnsIfDone p).settleDrain)
       (s.slot p e.stream = none → dropped .notBound) ∧
       (s.slot p e.stream ≠ none → c.state = .empty → dropped .rights) ∧
       (s.slot p e.stream ≠ none → c.state = .opened → (∀ k : Copy, c.copy = some k → k.granted.read = false) →
         dropped .rights) ∧
       (s.slot p e.stream ≠ none → c.state = .ended → dropped .apertureEnd) ∧
       (s.slot p e.stream ≠ none → c.state = .retiring ∨ c.state = .retired → dropped .retired)) ∧
  (∀ (p : Port) (s : State) (e : ReturnEntry) (rest : List ReturnEntry) (k : Copy), Operating s →
     (s.port p).builder.phase = .returns → (s.port p).builder.current = none → (s.port p).returns = e :: rest →
     (s.port p).mode = .running →
     s.slot p e.stream ≠ none → (s.context p e.stream).state = .opened → (s.context p e.stream).copy = some k →
     k.granted.read = true → (s.context p e.stream).cursor < k.geometry.size → 1 ≤ e.count → e.count ≤ 1024 →
     1 ≤ (s.port p).returnLimit → (s.port p).returnLimit ≤ 512 →
     let cursor := (s.context p e.stream).cursor
     let left := k.geometry.size - cursor
     let n := match k.geometry.policy with
       | .stop => min (min e.count (s.port p).returnLimit) left
       | .loop => min e.count (s.port p).returnLimit
     let atEnd : Prop := k.geometry.policy = .stop ∧ n = left
     let claim : FaultKind → Claim := fun kind =>
       ⟨kind, .port p, some e.stream, some ⟨k.aperture, cursor⟩, some ⟨headerType e.capture, e.capture⟩⟩
     let s0 := s.setPort p { s.port p with returns := rest }
     let s1 :=
       if n < e.count then
         if k.geometry.policy = .stop ∧ n = left then (s0.raise (claim .truncated)).raise (claim .apertureEnd)
         else s0.raise (claim .truncated)
       else s0
     let s2 := s1.setPort p
       { s1.port p with
         responseCounter := (s.port p).responseCounter + 1
         builder := { (s.port p).builder with
           current := some
             ⟨e.stream, n,
               BitVec.ofNat 16 n ++ (0#3 ++ (s.port p).responseCounter ++ BitVec.ofNat 2 e.stream.val) ++ (0xB1 : Byte),
               [], false⟩
           packetSent := true } }
     let suspends : Prop :=
       n < e.count ∧ (s.faults.classMap.get 11 = .class2 ∨ (atEnd ∧ s.faults.classMap.get 9 = .class2))
     1 ≤ n ∧ n ≤ 512 ∧
     (suspends →
       exec (.returnEntryTake p) s = .next
         (s1.setPort p
           { s1.port p with
             builder := { (s.port p).builder with
               phase := .report
               snapshot := some ((s1.port p).reportFlags ||| 0x2000) } }).settleDrain ∧
         (s1.port p).mode = .suspended ∧ (s1.port p).returns = []) ∧
     (¬ suspends →
       exec (.returnEntryTake p) s = .next
         (match s.request p with
          | some _ => s2.settleDrain
          | none =>
            (s2.setRequest p
              (some
                { access := .read
                  row := k.geometry.rowAt cursor
                  column := k.geometry.columnAt cursor
                  stream := some e.stream
                  aperture := k.aperture
                  generation := k.generation
                  marking := k.geometry.isMarking cursor
                  wanted := true
                  standing := true })).settleDrain)))

/-- R65, R112, R118, R145: the end of a RETURN whose n cells are all in the packet: the packet stands on the line
with its header, its check byte with bit 7 at 0, its cells and their checksum; its in-flight unit ends, drained if
its context is RETIRING; and the RETURNS phase ends if no entry is left. Before all cells are placed, and with no
RETURN being sent, the event changes nothing (log entry 3). -/
def Obligations.ReturnEndsWithItsChecksum : Prop :=
  ∀ (p : Port) (s : State), Operating s →
    ((s.port p).builder.current = none → exec (.returnEnd p) s = .next s) ∧
    ∀ r : CurrentReturn, (s.port p).builder.current = some r →
      (r.cells.length < r.length → exec (.returnEnd p) s = .next s) ∧
      (r.length ≤ r.cells.length →
        exec (.returnEnd p) s = .next
          ((({ s with
              ports := s.ports.set p
                { s.port p with
                  builder := { (s.port p).builder with current := none }
                  line := { (s.port p).line with
                    packets := (s.port p).line.packets ++
                      [⟨r.header, 0#1 ++ checkBits r.header, r.cells, some (sumCells r.cells)⟩] } }
              retire :=
                if (s.context p r.stream).state = .retiring then
                  { s.retire with drained := min 255 (s.retire.drained + 1) }
                else s.retire } : State).endReturnsIfDone p).settleDrain))

/-- R65, R82, R114, R115: the REPORT is sent in the report phase with a flag in the snapshot and carries the
snapshot; the ACK is sent with no flag in it and no packet begun in this burst and carries the ACK count. Each takes
stream 0 and the response sequence counter, which advances, and the builder goes on to the close. Otherwise the
event changes nothing (log entries 3 and 16). R80, R116: the end symbol of a response in the close: the flags of the
snapshot clear from the pending report flags and no other, the ACK count becomes 0, the builder is IDLE and the port
LISTENING. -/
def Obligations.ReportAckAndEndSymbolAreSent : Prop :=
  (∀ (p : Port) (s : State) (flags : BitVec 16), Operating s → (s.port p).builder.snapshot = some flags →
     let sent : Byte → Word → State := fun type parameter =>
       let header : HeaderBits := parameter ++ (0#3 ++ (s.port p).responseCounter ++ 0#2) ++ type
       s.setPort p
         { s.port p with
           responseCounter := (s.port p).responseCounter + 1
           builder := { (s.port p).builder with packetSent := true, phase := .closing }
           line := { (s.port p).line with
             packets := (s.port p).line.packets ++ [⟨header, 0#1 ++ checkBits header, [], none⟩] } }
     ((s.port p).builder.phase ≠ .report → exec (.reportSent p) s = .next s ∧ exec (.ackSent p) s = .next s) ∧
     ((s.port p).builder.phase = .report → flags ≠ 0 →
       exec (.reportSent p) s = .next (sent 0x32 flags) ∧ exec (.ackSent p) s = .next s) ∧
     ((s.port p).builder.phase = .report → flags = 0 → (s.port p).builder.packetSent = false →
       exec (.ackSent p) s = .next (sent 0x31 (BitVec.ofNat 16 (s.port p).ackCount)) ∧
         exec (.reportSent p) s = .next s)) ∧
  (∀ (p : Port) (s : State), Operating s →
     ((s.port p).builder.phase ≠ .closing → exec (.endSymbolSent p) s = .next s) ∧
     ∀ flags : BitVec 16, (s.port p).builder.phase = .closing → (s.port p).builder.snapshot = some flags →
       (s.port p).builder.current = none →
       exec (.endSymbolSent p) s = .next
         (s.setPort p
           { s.port p with
             link := .listening
             reportFlags := (s.port p).reportFlags &&& ~~~ flags
             ackCount := 0
             builder := ⟨.idle, none, false, none⟩
             line := { (s.port p).line with status := .complete } }))

/-- R55: the checksum register: one payload bit is the feedback, the shift and the exclusive OR with $A001; a byte
is taken bit 0 first, a payload of cells low byte first from $FFFF. A payload followed by its own checksum, low byte
first, leaves the register at 0, so a received packet compares equal exactly where the remainder is 0. -/
def Obligations.ChecksumRegister : Prop :=
  (∀ (r : Word) (b : Bool),
    sumBit r b = if (r.getLsbD 0 ^^ b) = true then (r >>> 1) ^^^ 0xA001 else r >>> 1) ∧
  (∀ (r : Word) (b : Byte),
    sumByte r b = sumBit (sumBit (sumBit (sumBit (sumBit (sumBit (sumBit (sumBit r (b.getLsbD 0)) (b.getLsbD 1))
      (b.getLsbD 2)) (b.getLsbD 3)) (b.getLsbD 4)) (b.getLsbD 5)) (b.getLsbD 6)) (b.getLsbD 7)) ∧
  sumCells [] = 0xFFFF ∧
  (∀ (cells : List Word) (v : Word),
    sumCells (cells ++ [v]) = sumByte (sumByte (sumCells cells) (v.extractLsb' 0 8)) (v.extractLsb' 8 8)) ∧
  ∀ (cells : List Word) (received : Word), sumCells (cells ++ [received]) = 0 ↔ received = sumCells cells

/-! ### The command unit -/

/-- R186: the argument fields. Every value of each field, packed as R186 packs it, is what the command reads: rows,
columns 0..2047, order, policy, rights, mark 0..2047 and n 0..63 of DEFINE_APERTURE from ARG0..ARG3; p and s 0..7, n
0..63, the rights of BIND, and the scope 0..7 and drain of RETIRE from ARG0 and ARG1. -/
def Obligations.StagedArgumentFieldsAreReadAsPacked : Prop :=
  (∀ (a : Bank 4 Word) (firstRow lastRow : BitVec 8) (firstColumn lastColumn mark : BitVec 11) (n : BitVec 6)
      (order policy read write : Bool) (spare : BitVec 5),
    a.get 0 = lastRow ++ firstRow →
    a.get 1 = BitVec.ofBool (n.getLsbD 5) ++ BitVec.ofBool write ++ BitVec.ofBool read ++ BitVec.ofBool policy ++
      BitVec.ofBool order ++ firstColumn →
    a.get 2 = n.extractLsb' 0 5 ++ lastColumn → a.get 3 = spare ++ mark →
    defineIndex a = n.toNat ∧ defineFirstColumn a = firstColumn.toNat ∧ defineLastColumn a = lastColumn.toNat ∧
      defineRights a = ⟨read, write⟩ ∧
      defineGeometry a =
        ⟨firstColumn.extractLsb' 0 10, lastColumn.extractLsb' 0 10, firstRow, lastRow,
          if order then .columns else .rows, if policy then .loop else .stop, mark⟩) ∧
  ∀ (a : Bank 4 Word) (port stream scope : BitVec 3) (n : BitVec 6) (read write drain : Bool)
      (x1 x2 : BitVec 1) (x3 : BitVec 2) (y : BitVec 7),
    a.get 0 = x3 ++ n ++ x2 ++ stream ++ x1 ++ port →
    argPort a = port.toNat ∧ argStream a = stream.toNat ∧ argIndex a = n.toNat ∧
    (∀ z : BitVec 14, a.get 1 = z ++ BitVec.ofBool write ++ BitVec.ofBool read → argRights a = ⟨read, write⟩) ∧
    ∀ z : BitVec 5, a.get 1 = y ++ BitVec.ofBool drain ++ z ++ scope →
      argScope a = scope.toNat ∧ argDrain a = drain

/-- R12, R13, R124, R125: DEFINE_APERTURE. The checks fail in the order index, columns, rights, mark; a refusal
changes no entry. Otherwise the entry becomes DEFINED with the staged values, its generation advances by one modulo
256, and its mark flag clears. R15, R124, R125: CLEAR_APERTURE. BAD_INDEX above 31; IN_USE while a slot names the
entry or the host context is OPEN or ENDED with a copy of it; otherwise the entry is FREE with its other fields and
its mark flag kept. -/
def Obligations.DefineAndClearApertureResults : Prop :=
  (∀ s : State, CommandReady s →
     let a := s.command.args
     let taken : ResultCode → State := fun code =>
       { s with
         command := ⟨false, false, 0x0011, a, a, code, Bank.fill 3 0⟩
         interrupts := { s.interrupts with cmdDone := true } }
     let result := exec .defineAperture s
     (32 ≤ defineIndex a → result = .next (taken .badIndex)) ∧
     ∀ n : ApIndex, defineIndex a = n.val →
       (1023 < defineFirstColumn a ∨ 1023 < defineLastColumn a ∨ defineLastColumn a < defineFirstColumn a →
         result = .next (taken .badGeometry)) ∧
       (defineFirstColumn a ≤ 1023 → defineLastColumn a ≤ 1023 → defineFirstColumn a ≤ defineLastColumn a →
         (defineRights a = ⟨false, false⟩ → result = .next (taken .badRights)) ∧
         (defineRights a ≠ ⟨false, false⟩ →
           ((defineGeometry a).lineCount < (defineGeometry a).mark.toNat → result = .next (taken .badMark)) ∧
           ((defineGeometry a).mark.toNat ≤ (defineGeometry a).lineCount →
             result = .next
               { taken .done with
                 apertures := s.apertures.set n
                   ⟨true, defineGeometry a, defineRights a, (s.aperture n).generation + 1⟩
                 marks := s.marks &&& ~~~ BitVec.twoPow 32 n.val })))) ∧
  (∀ s : State, CommandReady s →
     let a := s.command.args
     let taken : ResultCode → State := fun code =>
       { s with
         command := ⟨false, false, 0x0012, a, a, code, Bank.fill 3 0⟩
         interrupts := { s.interrupts with cmdDone := true } }
     (32 ≤ argIndex a → exec .clearAperture s = .next (taken .badIndex)) ∧
     ∀ n : ApIndex, argIndex a = n.val →
       let inUse : Prop :=
         (∃ (p : Port) (t : Stream) (b : Binding), s.slot p t = some b ∧ b.aperture = n) ∨
           ((s.hostContext.state = .opened ∨ s.hostContext.state = .ended) ∧
             ∃ k : Copy, s.hostContext.copy = some k ∧ k.aperture = n)
       (inUse → exec .clearAperture s = .next (taken .inUse)) ∧
       (¬ inUse →
         exec .clearAperture s = .next
           { taken .done with apertures := s.apertures.set n { s.aperture n with isDefined := false } }))

/-- R22, R124, R125: BIND. The checks fail in the order index, FREE entry, occupied slot, rights; a refusal changes
no slot. Otherwise the slot takes the index and the rights, and no context changes. -/
def Obligations.BindResult : Prop :=
  ∀ s : State, CommandReady s →
    let a := s.command.args
    let taken : ResultCode → State := fun code =>
      { s with
        command := ⟨false, false, 0x0021, a, a, code, Bank.fill 3 0⟩
        interrupts := { s.interrupts with cmdDone := true } }
    (4 ≤ argPort a ∨ 4 ≤ argStream a ∨ 32 ≤ argIndex a → exec .bind s = .next (taken .badIndex)) ∧
    ∀ (p : Port) (t : Stream) (n : ApIndex), argPort a = p.val → argStream a = t.val → argIndex a = n.val →
      let granted := argRights a
      let allowed : Prop :=
        granted ≠ ⟨false, false⟩ ∧ (granted.read = true → (s.aperture n).rights.read = true) ∧
          (granted.write = true → (s.aperture n).rights.write = true)
      ((s.aperture n).isDefined = false → exec .bind s = .next (taken .noAperture)) ∧
      ((s.aperture n).isDefined = true → s.slot p t ≠ none → exec .bind s = .next (taken .alreadyBound)) ∧
      ((s.aperture n).isDefined = true → s.slot p t = none → ¬ allowed →
        exec .bind s = .next (taken .badRights)) ∧
      ((s.aperture n).isDefined = true → s.slot p t = none → allowed →
        exec .bind s = .next ((taken .done).setSlot p t (some ⟨n, granted⟩)))

/-- R23, R28, R124, R125, R189: UNBIND. BAD_INDEX, NOT_BOUND, CONTEXT_LIVE for an OPEN, ENDED or RETIRING context;
an EMPTY or RETIRED one becomes EMPTY and the slot empty. An outstanding request of the stream keeps its cell and
identity but belongs to no walk any more. -/
def Obligations.UnbindResult : Prop :=
  ∀ s : State, CommandReady s →
    let a := s.command.args
    let taken : ResultCode → State := fun code =>
      { s with
        command := ⟨false, false, 0x0022, a, a, code, Bank.fill 3 0⟩
        interrupts := { s.interrupts with cmdDone := true } }
    (4 ≤ argPort a ∨ 4 ≤ argStream a → exec .unbind s = .next (taken .badIndex)) ∧
    ∀ (p : Port) (t : Stream), argPort a = p.val → argStream a = t.val →
      let state := (s.context p t).state
      (s.slot p t = none → exec .unbind s = .next (taken .notBound)) ∧
      (s.slot p t ≠ none → state = .opened ∨ state = .ended ∨ state = .retiring →
        exec .unbind s = .next (taken .contextLive)) ∧
      (s.slot p t ≠ none → state = .empty ∨ state = .retired →
        exec .unbind s = .next
          ((((taken .done).setRequest p ((s.request p).map fun r =>
            if r.stream = some t then { r with standing := false } else r)).setContext p t
              ⟨.empty, none, false, 0, 0⟩).setSlot p t none))

/-- R74, R45, R69, R132: SUSPEND_PORT: BAD_INDEX; a port already SUSPENDED is left as it is. A RUNNING port becomes
SUSPENDED: its RECEIVING item is removed, the decoder skipping what its packet still owes, its return queue is
emptied, its SUSPENDED report flag is set, and the fault unit takes SUSPENDED with no stream. The SUSPEND latch is
not set. R77, R124, R125, R132: RESUME_PORT: BAD_INDEX; NOT_SUSPENDED for a RUNNING port; a SUSPENDED one becomes
RUNNING and nothing else of it changes. Log entry 13, the model's choice: the payload of a PAD being taken is still
taken. -/
def Obligations.SuspendAndResumePortResults : Prop :=
  (∀ s : State, CommandReady s → s.retire.phase = .idle →
     (∀ (p : Port) (t : Stream), (s.context p t).state ≠ .retiring) →
     let a := s.command.args
     let taken : State :=
       { s with command := ⟨false, false, 0x0041, a, a, .none, Bank.fill 3 0⟩ }
     let completed : State → ResultCode → State := fun t code =>
       { t with
         command := { t.command with result := code }
         interrupts := { t.interrupts with cmdDone := true } }
     (4 ≤ argPort a → exec .suspendPort s = .next (completed taken .badIndex)) ∧
     ∀ p : Port, argPort a = p.val →
       ((s.port p).mode = .suspended → exec .suspendPort s = .next (completed taken .done)) ∧
       ((s.port p).mode = .running →
         exec .suspendPort s = .next
           (completed
             ((taken.setPort p
               { s.port p with
                 mode := .suspended
                 returns := []
                 reportFlags := (s.port p).reportFlags ||| 0x2000
                 queue := (s.port p).queue.filter fun i => !i.isReceiving
                 burst :=
                   if (s.port p).queue.any fun i => i.isReceiving then
                     (s.port p).burst.map fun u =>
                       { u with
                         position :=
                           match u.position with
                           | .take d n last sum =>
                             if headerType d = 0xA1 then .skip d (2 * (headerParameter d).toNat + 2 - n)
                             else .take d n last sum
                           | .check d low sum =>
                             if headerType d = 0xA1 then .skip d (if low = none then 2 else 1)
                             else .check d low sum
                           | .header collected => .header collected
                           | .skip d owed => .skip d owed
                           | .discard => .discard }
                   else (s.port p).burst }).takeClaim
               ⟨.suspended, .port p, none, none, none⟩) .done))) ∧
  (∀ s : State, CommandReady s →
     let a := s.command.args
     let taken : ResultCode → State := fun code =>
       { s with
         command := ⟨false, false, 0x0042, a, a, code, Bank.fill 3 0⟩
         interrupts := { s.interrupts with cmdDone := true } }
     (4 ≤ argPort a → exec .resumePort s = .next (taken .badIndex)) ∧
     ∀ p : Port, argPort a = p.val →
       ((s.port p).mode = .running → exec .resumePort s = .next (taken .notSuspended)) ∧
       ((s.port p).mode = .suspended →
         exec .resumePort s = .next ((taken .done).setPort p { s.port p with mode := .running })))

/-- R78, R124, R125: RESET_PORT, with no context RETIRING (R135): BAD_INDEX; otherwise the cleared state takes its
values and the port is RUNNING; an enabled port is disabled and enabled again, which leaves it in WAIT_SYNC with its
items removed but for one that finishes its cell in hand, its return queue empty and a response cut. -/
def Obligations.ResetPortResult : Prop :=
  ∀ s : State, CommandReady s → s.retire.phase = .idle →
    (∀ (p : Port) (t : Stream), (s.context p t).state ≠ .retiring) →
    let a := s.command.args
    let taken : ResultCode → State := fun code =>
      { s with
        command := ⟨false, false, 0x0043, a, a, code, Bank.fill 3 0⟩
        interrupts := { s.interrupts with cmdDone := true } }
    (4 ≤ argPort a → exec .resetPort s = .next (taken .badIndex)) ∧
    ∀ p : Port, argPort a = p.val →
      let cleared : PortState → PortState := fun x =>
        { x with
          reportFlags := 0
          returnLimit := 32
          expectation := none
          responseCounter := 0
          ackCount := 0
          mode := .running }
      let counters := s.faults.counters.set (Source.port p).number ⟨0, false⟩
      ((s.port p).enabled = false →
        exec .resetPort s = .next
          { (taken .done).setPort p (cleared (s.port p)) with
            faults := { s.faults with counters := counters } }) ∧
      ((s.port p).enabled = true →
        exec .resetPort s = .next
          { (taken .done).setPort p
              { cleared (s.port p) with
                link := .waitSync
                burst := none
                rxTimer := none
                queue := (s.port p).queue.filterMap fun i =>
                  match i.state with
                  | .receiving _ => none
                  | .ready => none
                  | .committing c inHand _ counted =>
                    if inHand then some { i with state := .committing c true true counted } else none
                returns := []
                builder := if (s.port p).link = .responding then ⟨.idle, none, false, none⟩ else (s.port p).builder
                line :=
                  if (s.port p).link = .responding then { (s.port p).line with status := .cut }
                  else (s.port p).line } with
            faults := { s.faults with counters := counters }
            arbiter := { s.arbiter with
              portRequests :=
                if (s.port p).link = .responding ∧ (s.port p).builder.current ≠ none then
                  s.arbiter.portRequests.set p ((s.request p).map fun r => { r with wanted := false })
                else s.arbiter.portRequests } })

/-- R132, R152, R153: HOST_OPEN loads the host context from its entry, OPEN at cursor 0 with the entry's rights,
whatever it was; BAD_INDEX and NO_APERTURE refuse it. HOST_CLOSE makes it CLOSED at cursor 0 with its copy and
passes kept. -/
def Obligations.HostOpenAndCloseResults : Prop :=
  ∀ s : State, CommandReady s →
    let a := s.command.args
    let taken : Word → ResultCode → State := fun opcode code =>
      { s with
        command := ⟨false, false, opcode, a, a, code, Bank.fill 3 0⟩
        interrupts := { s.interrupts with cmdDone := true } }
    (32 ≤ argIndex a → exec .hostOpen s = .next (taken 0x0051 .badIndex)) ∧
    (∀ n : ApIndex, argIndex a = n.val →
      ((s.aperture n).isDefined = false → exec .hostOpen s = .next (taken 0x0051 .noAperture)) ∧
      ((s.aperture n).isDefined = true →
        exec .hostOpen s = .next
          { taken 0x0051 .done with
            hostContext :=
              ⟨.opened, some ⟨n, (s.aperture n).geometry, (s.aperture n).rights, (s.aperture n).generation⟩, 0, 0⟩ })) ∧
    exec .hostClose s = .next
      { taken 0x0052 .done with
        hostContext :=
          if s.hostContext.state = .closed then s.hostContext
          else { s.hostContext with state := .closed, cursor := 0 } }

/-- R124, R125, R128, R186: a write to CMD of a value that is no opcode is taken and completes at once with
BAD_COMMAND; no table, context or port changes. R126: "The write sets the collision flag and has no other effect": a
write to CMD while the unit is BUSY, whatever row it is. Log entry 4, the model's choice: a command row sent to a
BUSY unit is such a write. -/
def Obligations.BadCommandAndCollisionResults : Prop :=
  (∀ (v : Word) (s : State), CommandReady s →
     v ∉ ([0x0011, 0x0012, 0x0021, 0x0022, 0x0031, 0x0041, 0x0042, 0x0043, 0x0051, 0x0052] : List Word) →
     exec (.badCommand v) s = .next
       { s with
         command := ⟨false, false, v, s.command.args, s.command.args, .badCommand, Bank.fill 3 0⟩
         interrupts := { s.interrupts with cmdDone := true } }) ∧
  (∀ (v : Word) (s : State), BusFree s → s.command.busy = true →
     ∀ c ∈ [Instr.cmdCollision v, .badCommand v, .defineAperture, .clearAperture, .bind, .unbind, .retireAbort,
         .retireDrain, .suspendPort, .resumePort, .resetPort, .hostOpen, .hostClose],
       exec c s = .next { s with command := { s.command with collision := true } })

/-! ### Retirement -/

/-- R131, R186: the scope and target of RETIRE: BAD_SCOPE above 3; then BAD_INDEX for a target out of range; ALL
uses no target. R131, R137: a RETIRE that is refused, or that finds no OPEN or ENDED context in its scope, completes
in the event of its take in either mode, with details 0, and changes nothing else. Log entry 4, the model's choice:
both RETIRE rows are the write of $0031, whose staged drain bit decides the mode. Log entry 27, the model's choice: the
engine's counts are left as the last command left them. -/
def Obligations.RetireChecksItsScope : Prop :=
  (∀ a : Bank 4 Word,
     (4 ≤ argScope a → retireScope a = .error .badScope) ∧
     (argScope a = 0 → retireScope a = .ok .all) ∧
     (argScope a = 1 → 4 ≤ argPort a → retireScope a = .error .badIndex) ∧
     (∀ p : Port, argScope a = 1 → argPort a = p.val → retireScope a = .ok (.port p)) ∧
     (argScope a = 2 → 32 ≤ argIndex a → retireScope a = .error .badIndex) ∧
     (∀ n : ApIndex, argScope a = 2 → argIndex a = n.val → retireScope a = .ok (.aperture n)) ∧
     (argScope a = 3 → 4 ≤ argPort a ∨ 4 ≤ argStream a → retireScope a = .error .badIndex) ∧
     ∀ (p : Port) (t : Stream), argScope a = 3 → argPort a = p.val → argStream a = t.val →
       retireScope a = .ok (.binding p t)) ∧
  (∀ s : State, CommandReady s →
     let a := s.command.args
     let taken : ResultCode → State := fun code =>
       { s with
         command := ⟨false, false, 0x0031, a, a, code, Bank.fill 3 0⟩
         interrupts := { s.interrupts with cmdDone := true } }
     ∀ c ∈ [Instr.retireAbort, .retireDrain],
       (∀ code : ResultCode, retireScope a = .error code → exec c s = .next (taken code)) ∧
       ∀ x : Scope, retireScope a = .ok x →
         (∀ (p : Port) (t : Stream),
           (s.context p t).state = .opened ∨ (s.context p t).state = .ended →
           (match x with
             | .all => true
             | .port q => p == q
             | .aperture n => (s.context p t).copy.any fun k => k.aperture == n
             | .binding q u => p == q && t == u) = false) →
         (s.hostContext.state = .opened ∨ s.hostContext.state = .ended →
           (match x with
             | .all => true
             | .port _ => false
             | .aperture n => s.hostContext.copy.any fun k => k.aperture == n
             | .binding _ _ => false) = false) →
         exec c s = .next (taken .done))

/-- R35, R138, R140, R141: RETIRE in abort mode from an IDLE engine, with no context RETIRING: every OPEN or ENDED
head context of the scope becomes RETIRED at cursor 0 with its end indicator clear and its copy and passes kept, no
other head context changes, and the host context becomes RETIRED if it is affected. The command completes in the
same event with DONE; its details are the number of affected contexts, 0, and the in-flight units of the affected
head contexts that no earlier command counted (R145). The band store, the aperture table, the mark flags and the
slots keep their values. R69, R118, R138, R140: what a RETIRE in abort mode leaves at a port where RETIRED is not in
class 2: the return entries and work items of the affected streams are gone, but for an item whose cell in hand is
outstanding, which stays until its grant; the others keep their order, and no ACK count changes. A RETURN in
transmission for an affected context keeps its length and header: the cells whose low byte has left keep their
values, how many being open (log entry 6), and the rest are $0000; its outstanding read is no longer wanted, and a
request posted for an affected context's walk advances no cursor. The decoder skips what a removed WRITE still owes.
RETIRED is raised for each removed return entry, with the entry's READ header, and for each RETURN cut short, with
the RETURN's own header as sent, each with the context's aperture index and cursor at the take; and for nothing else.
Log entry 18, the model's choice, is the order of the claims. -/
def Obligations.RetireAbortResult : Prop :=
  (∀ (s : State) (x : Scope), CommandReady s → s.retire.phase = .idle →
     (∀ (p : Port) (t : Stream), (s.context p t).state ≠ .retiring) → QueuesBounded s →
     retireScope s.command.args = .ok x → argDrain s.command.args = false →
     let covered : Port → Stream → Bool := fun p t =>
       ((s.context p t).state == .opened || (s.context p t).state == .ended) &&
         match x with
         | .all => true
         | .port q => p == q
         | .aperture n => (s.context p t).copy.any fun k => k.aperture == n
         | .binding q u => p == q && t == u
     let hostCovered : Bool :=
       (s.hostContext.state == .opened || s.hostContext.state == .ended) &&
         match x with
         | .all => true
         | .port _ => false
         | .aperture n => s.hostContext.copy.any fun k => k.aperture == n
         | .binding _ _ => false
     let heads := allHeads.filter fun h => covered h.1 h.2
     let units : Port × Stream → Nat := fun h =>
       ((s.port h.1).queue.filter fun i => i.stream == h.2 && !i.isCounted).length +
         match (s.port h.1).builder.current with
         | some r => if r.stream = h.2 ∧ r.zeroFilled = false then 1 else 0
         | none => 0
     (heads ≠ [] ∨ hostCovered = true) →
     ∃ t : State, exec .retireAbort s = .next t ∧
       (∀ (p : Port) (u : Stream), t.context p u =
         if covered p u then { s.context p u with state := .retired, cursor := 0, endIndicator := false }
         else s.context p u) ∧
       t.hostContext =
         (if hostCovered then { s.hostContext with state := .retired, cursor := 0 } else s.hostContext) ∧
       t.command.busy = false ∧ t.command.result = .done ∧ t.command.lastOpcode = 0x0031 ∧
       t.command.args = s.command.args ∧
       (t.command.details.get 0).toNat = heads.length + (if hostCovered then 1 else 0) ∧
       (t.command.details.get 1).toNat = 0 ∧
       (t.command.details.get 2).toNat = (heads.map units).sum ∧
       t.interrupts.cmdDone = true ∧ t.retire.phase = .idle ∧ t.retire.affected = [] ∧ t.retire.timer = none ∧
       t.store = s.store ∧ t.apertures = s.apertures ∧ t.marks = s.marks ∧ t.bindings = s.bindings) ∧
  (∀ (s t : State) (x : Scope), CommandReady s → s.retire.phase = .idle →
     (∀ (p : Port) (u : Stream), (s.context p u).state ≠ .retiring) →
     retireScope s.command.args = .ok x → argDrain s.command.args = false →
     s.faults.classMap.get 12 ≠ .class2 →
     exec .retireAbort s = .next t →
     let covered : Port → Stream → Bool := fun p u =>
       ((s.context p u).state == .opened || (s.context p u).state == .ended) &&
         x.coversHead p u (s.context p u).copy
     let cut : Port → CurrentReturn → Bool := fun p r => covered p r.stream && !r.zeroFilled
     let claim : Port → Stream → HeaderBits → Claim := fun p u d =>
       ⟨.retired, .port p, some u, (s.context p u).copy.map fun k => ⟨k.aperture, (s.context p u).cursor⟩,
         some ⟨headerType d, d⟩⟩
     let claims : List Claim :=
       (allPorts.flatMap fun p =>
         ((s.port p).returns.filter fun e => covered p e.stream).map fun e => claim p e.stream e.capture) ++
       allPorts.flatMap fun p =>
         match (s.port p).builder.current with
         | some r => if cut p r then [claim p r.stream r.header] else []
         | none => []
     let raised : State := claims.foldl State.takeClaim s
     t.faults = raised.faults ∧ t.interrupts = { raised.interrupts with cmdDone := true } ∧
     ∀ p : Port,
       (t.port p).reportFlags =
         (if claims.any fun c => c.source == .port p then (s.port p).reportFlags ||| 0x1000
          else (s.port p).reportFlags) ∧
       (t.port p).returns = (s.port p).returns.filter (fun e => !covered p e.stream) ∧
       (t.port p).ackCount = (s.port p).ackCount ∧ (t.port p).mode = (s.port p).mode ∧
       (t.port p).burst =
         (if (s.port p).queue.any fun i => i.isReceiving && covered p i.stream then
            (s.port p).burst.map Burst.skipWrite
          else (s.port p).burst) ∧
       (t.port p).queue = (s.port p).queue.filterMap (fun i =>
         if covered p i.stream then
           match i.state with
           | .receiving _ => none
           | .ready => none
           | .committing c inHand _ _ =>
             if inHand then some { i with state := .committing c true true true } else none
         else some i) ∧
       ((∀ r : CurrentReturn, (s.port p).builder.current = some r → cut p r = false) →
         (t.port p).builder = (s.port p).builder) ∧
       (∀ r : CurrentReturn, (s.port p).builder.current = some r → cut p r = true →
         ∃ m : Nat, m ≤ r.cells.length ∧
           (t.port p).builder =
             { (s.port p).builder with
               current := some
                 { r with cells := r.cells.take m ++ List.replicate (r.length - m) 0, zeroFilled := true } }) ∧
       t.request p = (s.request p).map fun q =>
         { q with
           standing := q.standing && !q.stream.any fun u => covered p u
           wanted := q.wanted && !(s.port p).builder.current.any fun r => cut p r })

/-- R35, R136, R138, R142: RETIRE in drain mode from an IDLE engine, where RETIRED is not in class 2: each affected
head context with no in-flight unit becomes RETIRED, each other one RETIRING with its copy, cursor and passes kept and
its end indicator telling whether it was ENDED; the affected return entries are removed, and each raises RETIRED with
its READ header and the context's aperture index and cursor at the take, on each port in the order of the queue (log
entry 18, the model's choice, is the order of the ports). With work in flight the unit is BUSY with result NONE and
details 0, the engine DRAINING with its counts, and the drain timer runs for DRAIN_LIMIT × 16 µs unless the limit is
0. With none the command completes with DONE in the event of its take, with the number of affected contexts, 0 and 0
as its details, and no timer runs. -/
def Obligations.RetireDrainBeginsTheDrain : Prop :=
  ∀ (s : State) (x : Scope), CommandReady s → s.retire.phase = .idle →
    (∀ (p : Port) (u : Stream), (s.context p u).state ≠ .retiring) →
    retireScope s.command.args = .ok x → argDrain s.command.args = true →
    s.faults.classMap.get 12 ≠ .class2 →
    let covered : Port → Stream → Bool := fun p u =>
      ((s.context p u).state == .opened || (s.context p u).state == .ended) &&
        x.coversHead p u (s.context p u).copy
    let hostCovered : Bool :=
      (s.hostContext.state == .opened || s.hostContext.state == .ended) && x.coversHost s.hostContext.copy
    let count : Nat := (allHeads.filter fun h => covered h.1 h.2).length + (if hostCovered then 1 else 0)
    let claims : List Claim := allPorts.flatMap fun p =>
      ((s.port p).returns.filter fun e => covered p e.stream).map fun e =>
        ⟨.retired, .port p, some e.stream,
          (s.context p e.stream).copy.map fun k => ⟨k.aperture, (s.context p e.stream).cursor⟩,
          some ⟨headerType e.capture, e.capture⟩⟩
    let raised : State := claims.foldl State.takeClaim s
    let taken : State → Prop := fun t =>
      (∀ (p : Port) (u : Stream), t.context p u =
        if covered p u then
          if s.inFlight p u = 0 then { s.context p u with state := .retired, cursor := 0, endIndicator := false }
          else { s.context p u with state := .retiring, endIndicator := (s.context p u).state == .ended }
        else s.context p u) ∧
      t.hostContext =
        (if hostCovered then { s.hostContext with state := .retired, cursor := 0 } else s.hostContext) ∧
      t.faults = raised.faults ∧
      (∀ p : Port, t.port p =
        { s.port p with
          returns := (s.port p).returns.filter fun e => !covered p e.stream
          reportFlags :=
            if (s.port p).returns.any fun e => covered p e.stream then (s.port p).reportFlags ||| 0x1000
            else (s.port p).reportFlags }) ∧
      t.arbiter = s.arbiter ∧ t.store = s.store ∧ t.apertures = s.apertures ∧ t.marks = s.marks ∧
      t.bindings = s.bindings
    ((∃ (p : Port) (u : Stream), covered p u = true ∧ s.inFlight p u ≠ 0) →
      ∃ t : State, exec .retireDrain s = .next t ∧ taken t ∧
        t.command = ⟨true, false, 0x0031, s.command.args, s.command.args, .none, Bank.fill 3 0⟩ ∧
        t.retire.phase = .draining ∧ t.retire.drained = 0 ∧ t.retire.aborted = 0 ∧ t.retire.retired = count ∧
        t.retire.timer = (if s.retire.drainLimit = 0 then none else some (s.retire.drainLimit.toNat * 16)) ∧
        t.interrupts = raised.interrupts) ∧
    ((∀ (p : Port) (u : Stream), covered p u = true → s.inFlight p u = 0) → count ≠ 0 →
      ∃ t : State, exec .retireDrain s = .next t ∧ taken t ∧
        t.command = ⟨false, false, 0x0031, s.command.args, s.command.args, .done,
          Bank.tabulate fun k => if k = 0 then BitVec.ofNat 8 count else 0⟩ ∧
        t.retire.phase = .idle ∧ t.retire.affected = [] ∧ t.retire.timer = none ∧
        t.interrupts = { raised.interrupts with cmdDone := true })

/-- R35, R144: the end of each event of a drain: every RETIRING context whose in-flight count is 0 becomes RETIRED,
and when none is left RETIRING the command completes with DONE, its counts in the details, the timer stopped and the
engine IDLE. Outside a drain nothing happens. Log entry 27, the model's choice: the engine keeps its counts after the
completion. -/
def Obligations.DrainEndsWithItsLastUnit : Prop :=
  ∀ s : State,
    (s.retire.phase = .idle → s.settleDrain = s) ∧
    (s.retire.phase = .draining →
      let ended : State :=
        { s with
          contexts := Bank.tabulate fun p => Bank.tabulate fun t =>
            if (s.context p t).state = .retiring ∧ s.inFlight p t = 0 then
              { s.context p t with state := .retired, cursor := 0, endIndicator := false }
            else s.context p t }
      ((∃ (p : Port) (t : Stream), (s.context p t).state = .retiring ∧ s.inFlight p t ≠ 0) →
        s.settleDrain = ended) ∧
      ((∀ (p : Port) (t : Stream), (s.context p t).state = .retiring → s.inFlight p t = 0) →
        s.settleDrain =
          { ended with
            command := { s.command with
              busy := false
              result := .done
              details := Bank.tabulate fun k =>
                BitVec.ofNat 8 (if k = 0 then s.retire.retired else if k = 1 then s.retire.drained
                  else s.retire.aborted) }
            interrupts := { s.interrupts with cmdDone := true }
            retire := { s.retire with phase := .idle, affected := [], timer := none } }))

/-- R118, R140, R147: the expiry of a running drain timer: every context still RETIRING becomes RETIRED at cursor 0,
and the command completes with DONE_FORCED, its unit IDLE, its timer stopped and its counts in the details. A RETURN
being sent for such a context is cut to zero cells: the cells whose low byte has left keep their values, how many
being open (log entry 6), its length stays, and the value of its outstanding read is no longer wanted. R145, R147:
the in-flight units of the contexts still RETIRING, but for those already counted, are added to the aborted count,
which saturates at 255. R69, R118, R140: what the expiry leaves at a port where RETIRED is not in class 2: the
RECEIVING and READY items of the RETIRING streams are gone, a COMMITTING one stays only until the grant of its cell in
hand, the other items keep their order, and the return queue and the ACK count are kept; the decoder skips what a
removed WRITE still owes; a request posted for a RETIRING context's walk advances no cursor; and RETIRED is raised for
each RETURN cut short, with the RETURN's own header as sent and the context's aperture index and cursor at the expiry,
and for nothing else. Log entry 18, the model's choice, is the order of the claims; log entry 27, the model's choice,
that the engine keeps its counts after the completion. -/
def Obligations.DrainTimerExpiryForcesTheRetirement : Prop :=
  (∀ (s : State) (n : Nat), Operating s → s.retire.phase = .draining → s.retire.timer = some n →
     ∃ t : State, exec .drainTimerExpiry s = .next t ∧
       (∀ (p : Port) (u : Stream), t.context p u =
         if (s.context p u).state = .retiring then
           { s.context p u with state := .retired, cursor := 0, endIndicator := false }
         else s.context p u) ∧
       t.command.busy = false ∧ t.command.result = .doneForced ∧ t.interrupts.cmdDone = true ∧
       t.retire.phase = .idle ∧ t.retire.timer = none ∧ t.retire.affected = [] ∧
       t.retire.retired = s.retire.retired ∧ t.retire.drained = s.retire.drained ∧
       t.command.details = Bank.tabulate (fun k =>
         BitVec.ofNat 8 (if k = 0 then t.retire.retired else if k = 1 then t.retire.drained else t.retire.aborted)) ∧
       (∀ (p : Port) (r : CurrentReturn), (s.port p).builder.current = some r → r.zeroFilled = false →
         (s.context p r.stream).state = .retiring →
         (∃ m : Nat, m ≤ r.cells.length ∧
           (t.port p).builder.current = some
             { r with cells := r.cells.take m ++ List.replicate (r.length - m) 0, zeroFilled := true }) ∧
         ∀ q : Request, t.request p = some q → q.wanted = false) ∧
       t.store = s.store ∧ t.marks = s.marks ∧ t.apertures = s.apertures ∧ t.bindings = s.bindings) ∧
  (∀ (s t : State) (n : Nat), Operating s → s.retire.phase = .draining → s.retire.timer = some n →
     s.retire.aborted ≤ 255 → exec .drainTimerExpiry s = .next t →
     let units : Port × Stream → Nat := fun h =>
       ((s.port h.1).queue.filter fun i => i.stream == h.2 && !i.isCounted).length +
         match (s.port h.1).builder.current with
         | some r => if r.stream = h.2 ∧ r.zeroFilled = false then 1 else 0
         | none => 0
     t.retire.aborted = min 255 (s.retire.aborted +
       ((allHeads.filter fun h => (s.context h.1 h.2).state == .retiring).map units).sum)) ∧
  (∀ (s t : State) (n : Nat), Operating s → s.retire.phase = .draining → s.retire.timer = some n →
     s.faults.classMap.get 12 ≠ .class2 → exec .drainTimerExpiry s = .next t →
     let forced : Port → Stream → Bool := fun p u => (s.context p u).state == .retiring
     let cut : Port → CurrentReturn → Bool := fun p r => forced p r.stream && !r.zeroFilled
     let claims : List Claim := allPorts.flatMap fun p =>
       match (s.port p).builder.current with
       | some r =>
         if cut p r then
           [⟨.retired, .port p, some r.stream,
             (s.context p r.stream).copy.map fun k => ⟨k.aperture, (s.context p r.stream).cursor⟩,
             some ⟨headerType r.header, r.header⟩⟩]
         else []
       | none => []
     let raised : State := claims.foldl State.takeClaim s
     t.faults = raised.faults ∧ t.interrupts = { raised.interrupts with cmdDone := true } ∧
     t.hostContext = s.hostContext ∧
     ∀ p : Port,
       (t.port p).reportFlags =
         (if (s.port p).builder.current.any fun r => cut p r then (s.port p).reportFlags ||| 0x1000
          else (s.port p).reportFlags) ∧
       (t.port p).returns = (s.port p).returns ∧ (t.port p).ackCount = (s.port p).ackCount ∧
       (t.port p).mode = (s.port p).mode ∧
       (t.port p).burst =
         (if (s.port p).queue.any fun i => i.isReceiving && forced p i.stream then
            (s.port p).burst.map Burst.skipWrite
          else (s.port p).burst) ∧
       (t.port p).queue = (s.port p).queue.filterMap (fun i =>
         if forced p i.stream then
           match i.state with
           | .receiving _ => none
           | .ready => none
           | .committing c inHand _ _ =>
             if inHand then some { i with state := .committing c true true true } else none
         else some i) ∧
       ((∀ r : CurrentReturn, (s.port p).builder.current = some r → cut p r = false) →
         (t.port p).builder = (s.port p).builder) ∧
       t.request p = (s.request p).map fun q =>
         { q with
           standing := q.standing && !q.stream.any fun u => forced p u
           wanted := q.wanted && !(s.port p).builder.current.any fun r => cut p r })

/-! ### Host data access -/

/-- R154 to R158, R180: a HOST_DATA access. Refused, by the state and then by the right, it raises one fault on port
H with no stream and no packet and the copy's index and cursor if one is held, and a read returns $0000. With the
right granted HA posts the request for the cell at the cursor. The performed grant of a write stores its value and
makes the mark test; that of a read drives the value of the cell, and drives nothing where the host released its
strobe while WAIT was asserted; the cursor advances. -/
def Obligations.HostDataAccessResult : Prop :=
  ∀ (s : State) (v : Word) (early : Bool),
    let c := s.hostContext
    let claim : FaultKind → Claim := fun kind =>
      ⟨kind, .host, none, c.copy.map fun k => ⟨k.aperture, c.cursor⟩, none⟩
    let refused : FaultKind → Prop := fun kind =>
      exec (.hostDataWrite v) s = .next (s.raise (claim kind)) ∧
        exec (.hostDataRead early) s = .next
          { s.raise (claim kind) with bus := { s.bus with readData := some 0 } }
    (BusFree s →
      (c.state = .closed → refused .notBound) ∧
      (c.state = .retired → refused .retired) ∧
      (c.state = .ended → refused .apertureEnd) ∧
      ∀ k : Copy, c.state = .opened → c.copy = some k →
        let posted : Access → Bool → State := fun access wanted =>
          { s with
            arbiter := { s.arbiter with
              hostRequest := some
                { access := access
                  row := k.geometry.rowAt c.cursor
                  column := k.geometry.columnAt c.cursor
                  stream := none
                  aperture := k.aperture
                  generation := k.generation
                  marking := k.geometry.isMarking c.cursor
                  wanted := wanted
                  standing := true } } }
        (k.granted.write = false → exec (.hostDataWrite v) s = .next (s.raise (claim .rights))) ∧
        (k.granted.write = true → exec (.hostDataWrite v) s = .next (posted (.write v) true)) ∧
        (k.granted.read = false →
          exec (.hostDataRead early) s = .next
            { s.raise (claim .rights) with bus := { s.bus with readData := some 0 } }) ∧
        (k.granted.read = true → exec (.hostDataRead early) s = .next (posted .read (!early)))) ∧
    ∀ r : Request, Operating s → s.arbiter.granting = some .host → s.arbiter.hostRequest = some r →
      s.bus.held = [] →
      let released := { s.arbiter with granting := none, hostRequest := none }
      let moved := if c.state = .opened then c.advance else c
      (∀ w : Word, r.access = .write w →
        exec .grantPerformed s = .next
          { s.writeCell r.row r.column w with
            arbiter := released
            marks :=
              if r.marking = true ∧ (s.aperture r.aperture).isDefined = true ∧
                  (s.aperture r.aperture).generation = r.generation then
                s.marks ||| BitVec.twoPow 32 r.aperture.val
              else s.marks
            hostContext := moved }) ∧
      (r.access = .read →
        exec .grantPerformed s = .next
          { s with
            arbiter := released
            bus :=
              if r.wanted = true then { s.bus with readData := some (s.cell r.row r.column) } else s.bus
            hostContext := moved })

/-- R180: a bus cycle whose strobe is asserted while a HOST_DATA request awaits its grant is held with WAIT,
whatever register it names, and has no effect until then; with no request outstanding it is taken at once. A cycle of
every row, and the read cycle of any register, is so held and so taken. After the grant of the HOST_DATA access the
held cycles take their effect in the order issued, each on the state the one before it leaves, up to and including the
first that posts a request of its own; the cycles behind that one stay held. An access or a held read whose strobe the
host released under WAIT has its effect and drives nothing, because its cycle has ended. Log entry 17, the model's
choice: more than one cycle can be held, they are kept first in, first out, and a cycle held behind another shows that
the other's strobe was released. -/
def Obligations.CyclesBehindAHostDataRequestAreHeld : Prop :=
  (∀ (v : Word) (hi : Bool) (q : Source) (offset : BitVec 8) (early : Bool),
    let rows : List (Instr × BusCycle) :=
      [(.softReset v, .write .control v), (.portEnable v, .write .control v), (.portDisable v, .write .control v),
        (.defineAperture, .write .cmd 0x0011), (.clearAperture, .write .cmd 0x0012), (.bind, .write .cmd 0x0021),
        (.unbind, .write .cmd 0x0022), (.retireAbort, .write .cmd 0x0031), (.retireDrain, .write .cmd 0x0031),
        (.suspendPort, .write .cmd 0x0041), (.resumePort, .write .cmd 0x0042), (.resetPort, .write .cmd 0x0043),
        (.hostOpen, .write .cmd 0x0051), (.hostClose, .write .cmd 0x0052), (.badCommand v, .write .cmd v),
        (.cmdCollision v, .write .cmd v), (.hostDataWrite v, .write .hostData v),
        (.hostDataRead early, .read .hostData early), (.faultPop v, .write .faultCount v),
        (.errorCounterRead q early, .read (.errorCounter q) early),
        (.ctxCursorLoRead early, .read (.ctxCursor false) early),
        (.hostCursorLoRead early, .read (.hostCursor false) early),
        (.intStatusWrite v, .write .intStatus v), (.markFlagsWrite hi v, .write (.markFlags hi) v),
        (.alertWrite v, .write .alert v), (.ctxSelectWrite v, .write .ctxSelect v),
        (.classMapWrite hi v, .write (.classMap hi) v), (.returnLimitSelect v, .write .returnLimit v),
        (.registerWrite offset v, .write (registerAt offset) v)]
    (∀ s : State, s.inReset = false → s.arbiter.hostRequest ≠ none →
      let held : BusCycle → State := fun c => { s with bus := { s.bus with held := s.bus.held ++ [c] } }
      s.wait = true ∧ (∀ x ∈ rows, exec x.1 s = .next (held x.2)) ∧
        busRead offset early s = .next (held (.read (registerAt offset) early))) ∧
    ∀ s : State, s.inReset = false → s.arbiter.hostRequest = none →
      (∀ x ∈ rows, exec x.1 s = .next (s.takeCycle x.2)) ∧
        busRead offset early s = .next (s.takeCycle (.read (registerAt offset) early))) ∧
  ∀ (s : State) (r : Request) (ahead : List BusCycle) (c : BusCycle) (behind : List BusCycle), Operating s →
    s.arbiter.granting = some .host → s.arbiter.hostRequest = some r → s.bus.held = ahead ++ c :: behind →
    let access : State :=
      { (match r.access with
          | .write w => s.writeCell r.row r.column w
          | .read => s) with
        arbiter := { s.arbiter with granting := none, hostRequest := none }
        marks :=
          if r.access ≠ .read ∧ r.marking = true ∧ (s.aperture r.aperture).isDefined = true ∧
              (s.aperture r.aperture).generation = r.generation then
            s.marks ||| BitVec.twoPow 32 r.aperture.val
          else s.marks
        hostContext := if s.hostContext.state = .opened then s.hostContext.advance else s.hostContext }
    let undriven : State → BusCycle → State := fun x d =>
      { x.takeCycle d with bus := { (x.takeCycle d).bus with readData := x.bus.readData } }
    let early : Bool := match c with
      | .read _ released => released
      | .write _ _ => false
    let before : State := ahead.foldl undriven access
    let after : State := if behind = [] ∧ early = false then before.takeCycle c else undriven before c
    (∀ k : Nat, k ≤ ahead.length → ((ahead.take k).foldl undriven access).arbiter.hostRequest = none) →
    behind = [] ∨ after.arbiter.hostRequest ≠ none →
    exec .grantPerformed s = .next ({ after with bus := { after.bus with held := behind } } : State).settleDrain

/-! ### Faults and signalling -/

/-- R164, R166, R169 to R171, R175, R179: the fault unit takes a claim whole. Its port's error counter counts it, at
127 setting the overflow flag and the COUNTER latch. In class 0 nothing else happens. In class 1 and 2 it collapses
into the record of its port, stream and kind, whose repeat count rises to at most 255; with no such record it is
inserted at the tail with repeat count 1; with 16 records it is dropped and OVERFLOW is set. Class 2 sets the alert
latch. -/
def Obligations.FaultUnitTakesAClaim : Prop :=
  ∀ (s : State) (c : Claim),
    let class' := s.faults.classMap.get c.kind.number
    let counter := s.faults.counters.get c.source.number
    let same : FaultRecord → Bool := fun r =>
      r.claim.source == c.source && r.claim.stream == c.stream && r.claim.kind == c.kind
    let matched := s.faults.queue.any same
    s.takeClaim c =
      { s with
        faults := { s.faults with
          counters := s.faults.counters.set c.source.number
            (if counter.count < 127 then ⟨counter.count + 1, counter.overflow⟩ else ⟨counter.count, true⟩)
          queue :=
            if class' = .class0 then s.faults.queue
            else if matched then
              s.faults.queue.map fun r => if same r then ⟨r.claim, min 255 (r.repeats + 1)⟩ else r
            else if s.faults.queue.length < 16 then s.faults.queue ++ [⟨c, 1⟩]
            else s.faults.queue
          alert := s.faults.alert || class' == .class2 }
        interrupts := { s.interrupts with
          counter := s.interrupts.counter || decide (127 ≤ counter.count)
          overflow := s.interrupts.overflow ||
            (class' != .class0 && !matched && decide (16 ≤ s.faults.queue.length)) } }

/-- R74, R79, R164, R167: a fault raised on a head port sets its report flag and is taken by the fault unit; one on
H is taken alone. In class 2 it suspends a RUNNING head port: its RECEIVING item is removed, the decoder skipping what
its packet still owes (R45) and its unit counted as aborted where its context is RETIRING (R146), its return queue is
emptied, its SUSPEND latch set, and SUSPENDED raised once, with its report flag and its own claim; a SUSPENDED port
is left as it is. Log entry 25, the model's choice: SUSPENDED is raised at once, before any further fault of the same
event. Log entry 13, the model's choice: the payload of a PAD being taken is still taken. -/
def Obligations.RaisedFaultFlagsAndSuspends : Prop :=
  ∀ (s : State) (p : Port) (kind : FaultKind) (stream : Option Stream) (walk : Option WalkPoint)
    (packet : Option PacketRef),
    s.raise ⟨kind, .host, stream, walk, packet⟩ = s.takeClaim ⟨kind, .host, stream, walk, packet⟩ ∧
    let c : Claim := ⟨kind, .port p, stream, walk, packet⟩
    let flagged := s.setPort p
      { s.port p with reportFlags := (s.port p).reportFlags ||| BitVec.twoPow 16 kind.number.val }
    let taken := flagged.takeClaim c
    (s.faults.classMap.get kind.number ≠ .class2 ∨ (s.port p).mode = .suspended → s.raise c = taken) ∧
    (s.faults.classMap.get kind.number = .class2 → (s.port p).mode = .running →
      (∀ i ∈ (s.port p).queue, i.isReceiving = false) →
      s.raise c =
        (({ taken with
            ports := taken.ports.set p
              { taken.port p with
                mode := .suspended
                returns := []
                reportFlags := (taken.port p).reportFlags ||| 0x2000 }
            interrupts := { taken.interrupts with suspend := taken.interrupts.suspend.set p true } } : State).takeClaim
          ⟨.suspended, .port p, none, none, none⟩)) ∧
    ∀ (ahead : List WorkItem) (i : WorkItem), s.faults.classMap.get kind.number = .class2 →
      (s.port p).mode = .running → (s.port p).queue = ahead ++ [i] → (∀ j ∈ ahead, j.isReceiving = false) →
      i.isReceiving = true →
      s.raise c =
        (({ taken with
            ports := taken.ports.set p
              { taken.port p with
                mode := .suspended
                returns := []
                reportFlags := (taken.port p).reportFlags ||| 0x2000
                queue := ahead
                burst := (s.port p).burst.map fun u =>
                  { u with
                    position :=
                      match u.position with
                      | .take d n last sum =>
                        if headerType d = 0xA1 then .skip d (2 * (headerParameter d).toNat + 2 - n)
                        else .take d n last sum
                      | .check d low sum =>
                        if headerType d = 0xA1 then .skip d (if low = none then 2 else 1)
                        else .check d low sum
                      | .header collected => .header collected
                      | .skip d owed => .skip d owed
                      | .discard => .discard } }
            retire :=
              if (s.context p i.stream).state = .retiring then
                { s.retire with aborted := min 255 (s.retire.aborted + 1) }
              else s.retire
            interrupts := { taken.interrupts with suspend := taken.interrupts.suspend.set p true } } : State).takeClaim
          ⟨.suspended, .port p, none, none, none⟩)

/-- R172, R176, R41, R160: FAULT_POP removes the head record and ignores the value written; a read of an error
counter drives count and overflow flag and clears both, not the COUNTER latch; a read of a cursor's low register
drives bits 15:0 of the selected context's, or the host context's, cursor and captures the bits above in that
register's own holding register. R183: a read cycle of any other register drives the value it shows
(OutputsFollowTheState) and changes nothing; the reads with a side effect are the table's four rows. A strobe can be
released early only under WAIT, so it does not matter here (R180). -/
def Obligations.AccessesWithASideEffect : Prop :=
  ∀ (s : State) (early : Bool), BusFree s →
    (∀ v : Word, exec (.faultPop v) s = .next { s with faults := { s.faults with queue := s.faults.queue.tail } }) ∧
    (∀ q : Source, exec (.errorCounterRead q early) s = .next
      { s with
        faults := { s.faults with counters := s.faults.counters.set q.number ⟨0, false⟩ }
        bus := { s.bus with
          readData := some
            (BitVec.ofNat 16 (s.faults.counters.get q.number).count |||
              if (s.faults.counters.get q.number).overflow then 0x0080 else 0) } }) ∧
    (∀ (p : Port) (t : Stream), s.window.ctxSelect.val = 4 * p.val + t.val →
      exec (.ctxCursorLoRead early) s = .next
        { s with
          window := { s.window with ctxHold := BitVec.ofNat 3 ((s.context p t).cursor / 65536) }
          bus := { s.bus with readData := some (BitVec.ofNat 16 (s.context p t).cursor) } }) ∧
    (s.window.ctxSelect.val = 16 →
      exec (.ctxCursorLoRead early) s = .next
        { s with
          window := { s.window with ctxHold := BitVec.ofNat 3 (s.hostContext.cursor / 65536) }
          bus := { s.bus with readData := some (BitVec.ofNat 16 s.hostContext.cursor) } }) ∧
    exec (.hostCursorLoRead early) s = .next
      { s with
        window := { s.window with hostHold := BitVec.ofNat 3 (s.hostContext.cursor / 65536) }
        bus := { s.bus with readData := some (BitVec.ofNat 16 s.hostContext.cursor) } } ∧
    (∀ q : Source, busRead (BitVec.ofNat 8 (0x42 + 2 * q.number.val)) early s = exec (.errorCounterRead q early) s) ∧
    busRead 0x52 early s = exec (.ctxCursorLoRead early) s ∧ busRead 0x5A early s = exec (.hostDataRead early) s ∧
    busRead 0x5E early s = exec (.hostCursorLoRead early) s ∧
    ∀ offset : BitVec 8,
      (offset &&& 0xFE) ∉ ([0x42, 0x44, 0x46, 0x48, 0x4A, 0x52, 0x5A, 0x5E] : List (BitVec 8)) →
      busRead offset early s = .next
        { s with bus := { s.bus with readData := some (s.readRegister (registerAt offset)) } }

/-- R19, R39, R165, R177, R179, R184: writes to the latches, the class map and the selections: INT_STATUS clears
each latch written with 1 and ignores FAULT and MARK; MARK_FLAGS clears the flags of its half written with 1; ALERT
clears by bit 0; CTX_SELECT takes 0..16 of the low five bits and ignores 17..31; CLASS_MAP stores the eight classes
of its half, a field of 3 as class 2; RETURN_LIMIT selects a port by bits 1:0. R11, R61, R123, R136, R178, R183: a
write at an offset with no row of its own: ARG0..ARG3 and RX_LIMIT store the value, DRAIN_LIMIT its low 12 bits,
INT_ENABLE its thirteen positions, APERTURE_SELECT its low five bits; at every read-only register and every offset
not in the map it is ignored. A0 is not on the bus. -/
def Obligations.RegisterWritesStoreOrClear : Prop :=
  (∀ (s : State) (v : Word), BusFree s →
     exec (.intStatusWrite v) s = .next
       { s with
         interrupts := { s.interrupts with
           overflow := s.interrupts.overflow && !v.getLsbD 1
           cmdDone := s.interrupts.cmdDone && !v.getLsbD 2
           line := Bank.tabulate fun p => s.interrupts.line.get p && !v.getLsbD (4 + p.val)
           suspend := Bank.tabulate fun p => s.interrupts.suspend.get p && !v.getLsbD (8 + p.val)
           counter := s.interrupts.counter && !v.getLsbD 12 } } ∧
     (∀ hi : Bool, ∃ m : BitVec 32, exec (.markFlagsWrite hi v) s = .next { s with marks := m } ∧
       ∀ n : ApIndex, m.getLsbD n.val =
         (s.marks.getLsbD n.val && !(decide (16 ≤ n.val) == hi && v.getLsbD (n.val % 16)))) ∧
     exec (.alertWrite v) s = .next { s with faults := { s.faults with alert := s.faults.alert && !v.getLsbD 0 } } ∧
     (∀ sel : Fin 17, (v &&& 0x001F).toNat = sel.val →
       exec (.ctxSelectWrite v) s = .next { s with window := { s.window with ctxSelect := sel } }) ∧
     (17 ≤ (v &&& 0x001F).toNat → exec (.ctxSelectWrite v) s = .next s) ∧
     (∀ hi : Bool, ∃ m : Bank 16 FaultClass,
       exec (.classMapWrite hi v) s = .next { s with faults := { s.faults with classMap := m } } ∧
       ∀ k : Fin 16, m.get k =
         if decide (8 ≤ k.val) = hi then
           (if (v >>> (2 * (k.val % 8))) &&& 3 = 0 then .class0
           else if (v >>> (2 * (k.val % 8))) &&& 3 = 1 then .class1 else .class2)
         else s.faults.classMap.get k) ∧
     exec (.returnLimitSelect v) s = .next
       { s with window := { s.window with returnLimitSelect := ⟨v.toNat % 4, Nat.mod_lt _ (by decide)⟩ } }) ∧
  (∀ (s : State) (v : Word), BusFree s →
     (∀ i : Fin 4, exec (.registerWrite (BitVec.ofNat 8 (0x08 + 2 * i.val)) v) s = .next
       { s with command := { s.command with args := s.command.args.set i v } }) ∧
     exec (.registerWrite 0x1A v) s = .next { s with retire := { s.retire with drainLimit := v.extractLsb' 0 12 } } ∧
     (∀ p : Port, exec (.registerWrite (BitVec.ofNat 8 (0x1C + 2 * p.val)) v) s = .next
       (s.setPort p { s.port p with rxLimit := v })) ∧
     exec (.registerWrite 0x26 v) s = .next
       { s with interrupts := { s.interrupts with enable := v.extractLsb' 0 13 } } ∧
     exec (.registerWrite 0x62 v) s = .next
       { s with window := { s.window with apertureSelect := ⟨v.toNat % 32, Nat.mod_lt _ (by decide)⟩ } } ∧
     ∀ offset : BitVec 8,
       (offset &&& 0xFE) ∉ ([0x02, 0x06, 0x08, 0x0A, 0x0C, 0x0E, 0x1A, 0x1C, 0x1E, 0x20, 0x22, 0x24, 0x26, 0x28, 0x2A,
         0x2C, 0x2E, 0x30, 0x40, 0x4C, 0x5A, 0x62, 0x78] : List (BitVec 8)) →
       exec (.registerWrite offset v) s = .next s)

/-- R20, R38, R157, R177 to R179, R185: the outputs. "INT is asserted exactly when at least one enabled interrupt
source is active": FAULT with a record in the queue, MARK with a mark flag set, and the latches, in the positions of
INT_STATUS. ALERT is asserted exactly when the alert latch is set, WAIT while a HOST_DATA request awaits its grant.
A copy is stale where its entry is FREE or has another generation; a context without a copy is not. R11, R20, R39 to
R41, R66, R159, R160, R165, R168, R182 to R187: what every register of the map shows, read at its byte offset, field
by field as the map places the fields, with every other bit 0; an offset not in the map reads $0000. HOST_DATA at $5A
shows nothing: a read of it is an access (R155). The premises of some views are bounds that every step keeps
(FaultQueueKeptByEveryStep, PortsKeptByEveryStep), or the in-flight count of R26. -/
def Obligations.OutputsFollowTheState : Prop :=
  (∀ s : State, s.inReset = false →
    (s.int = true ↔
      (s.faults.queue ≠ [] ∧ s.interrupts.enable.getLsbD 0 = true) ∨
      (s.interrupts.overflow = true ∧ s.interrupts.enable.getLsbD 1 = true) ∨
      (s.interrupts.cmdDone = true ∧ s.interrupts.enable.getLsbD 2 = true) ∨
      (s.marks ≠ 0 ∧ s.interrupts.enable.getLsbD 3 = true) ∨
      (∃ p : Port, s.interrupts.line.get p = true ∧ s.interrupts.enable.getLsbD (4 + p.val) = true) ∨
      (∃ p : Port, s.interrupts.suspend.get p = true ∧ s.interrupts.enable.getLsbD (8 + p.val) = true) ∨
      (s.interrupts.counter = true ∧ s.interrupts.enable.getLsbD 12 = true)) ∧
    (s.alertPin = true ↔ s.faults.alert = true) ∧
    (s.wait = true ↔ s.arbiter.hostRequest ≠ none) ∧
    isStale s.apertures none = false ∧
    ∀ k : Copy, isStale s.apertures (some k) = true ↔
      (s.aperture k.aperture).isDefined = false ∨ (s.aperture k.aperture).generation ≠ k.generation) ∧
  (∀ s : State,
    let read : BitVec 8 → Word := fun offset => s.readRegister (registerAt offset)
    read 0x00 = 0x6341 ∧
    ((∀ p : Port, (read 0x02).getLsbD p.val = (s.port p).enabled) ∧ (read 0x02).extractLsb' 4 12 = 0) ∧
    (∀ p : Port, (read 0x04).extractLsb' (4 * p.val) 4 =
      BitVec.ofBool ((s.port p).mode == .suspended) ++
        (match (s.port p).link with
          | .off => 0#3
          | .waitSync => 1#3
          | .listening => 2#3
          | .turnWait => 3#3
          | .responding => 4#3)) ∧
    read 0x06 = s.command.lastOpcode ∧
    (∀ i : Fin 4, read (BitVec.ofNat 8 (0x08 + 2 * i.val)) = s.command.args.get i) ∧
    read 0x10 = 0#14 ++ BitVec.ofBool s.command.collision ++ BitVec.ofBool s.command.busy ∧
    read 0x12 = (match s.command.result with
      | .none => 0
      | .done => 1
      | .doneForced => 2
      | .badCommand => 3
      | .badIndex => 4
      | .badGeometry => 5
      | .badMark => 6
      | .badRights => 7
      | .noAperture => 8
      | .inUse => 9
      | .alreadyBound => 10
      | .notBound => 11
      | .contextLive => 12
      | .badScope => 13
      | .notSuspended => 14) ∧
    (∀ i : Fin 3, read (BitVec.ofNat 8 (0x14 + 2 * i.val)) = 0#8 ++ s.command.details.get i) ∧
    read 0x1A = 0#4 ++ s.retire.drainLimit ∧
    (∀ p : Port, read (BitVec.ofNat 8 (0x1C + 2 * p.val)) = (s.port p).rxLimit) ∧
    ((read 0x24).extractLsb' 0 4 =
        BitVec.ofBool (s.marks != 0) ++ BitVec.ofBool s.interrupts.cmdDone ++ BitVec.ofBool s.interrupts.overflow ++
          BitVec.ofBool (!s.faults.queue.isEmpty) ∧
      (∀ p : Port, (read 0x24).getLsbD (4 + p.val) = s.interrupts.line.get p ∧
        (read 0x24).getLsbD (8 + p.val) = s.interrupts.suspend.get p) ∧
      (read 0x24).extractLsb' 12 4 = 0#3 ++ BitVec.ofBool s.interrupts.counter) ∧
    read 0x26 = 0#3 ++ s.interrupts.enable ∧
    read 0x28 = 0#15 ++ BitVec.ofBool s.faults.alert ∧
    (∀ k : Fin 16, (read (if 8 ≤ k.val then 0x2C else 0x2A)).extractLsb' (2 * (k.val % 8)) 2 =
      (match s.faults.classMap.get k with
        | .class0 => 0
        | .class1 => 1
        | .class2 => 2)) ∧
    (∀ n : ApIndex, (read (if 16 ≤ n.val then 0x30 else 0x2E)).getLsbD (n.val % 16) = s.marks.getLsbD n.val) ∧
    ((s.faults.queue = [] →
        ∀ offset ∈ ([0x32, 0x34, 0x36, 0x38, 0x3A, 0x3C, 0x3E] : List (BitVec 8)), read offset = 0) ∧
      ∀ (r : FaultRecord) (rest : List FaultRecord), s.faults.queue = r :: rest → r.repeats ≤ 255 →
        read 0x32 = 0#3 ++ BitVec.ofBool r.claim.packet.isSome ++ BitVec.ofBool r.claim.walk.isSome ++
            BitVec.ofBool r.claim.stream.isSome ++
            (match r.claim.stream with
              | some t => BitVec.ofNat 2 t.val
              | none => 0) ++ 0#1 ++ BitVec.ofNat 3 r.claim.source.number.val ++ BitVec.ofNat 4 r.claim.kind.number.val ∧
          read 0x34 = (match r.claim.packet with
            | some k => k.type
            | none => 0) ++ BitVec.ofNat 8 r.repeats ∧
          (∀ w : WalkPoint, r.claim.walk = some w →
            read 0x36 = 0#11 ++ BitVec.ofNat 5 w.aperture.val ∧ read 0x38 = BitVec.ofNat 16 w.offset ∧
              read 0x3A = 0#13 ++ BitVec.ofNat 3 (w.offset / 65536)) ∧
          (r.claim.walk = none → read 0x36 = 0 ∧ read 0x38 = 0 ∧ read 0x3A = 0) ∧
          (∀ k : PacketRef, r.claim.packet = some k →
            read 0x3E ++ read 0x3C = k.capture) ∧
          (r.claim.packet = none → read 0x3C = 0 ∧ read 0x3E = 0)) ∧
    read 0x40 = BitVec.ofNat 16 s.faults.queue.length ∧
    (∀ q : Source, (s.faults.counters.get q.number).count ≤ 127 →
      read (BitVec.ofNat 8 (0x42 + 2 * q.number.val)) =
        0#8 ++ BitVec.ofBool (s.faults.counters.get q.number).overflow ++
          BitVec.ofNat 7 (s.faults.counters.get q.number).count) ∧
    read 0x62 = BitVec.ofNat 16 s.window.apertureSelect.val ∧
    (let a := s.aperture s.window.apertureSelect
     read 0x64 = a.generation ++ 0#3 ++ BitVec.ofBool a.rights.write ++ BitVec.ofBool a.rights.read ++
         BitVec.ofBool (a.geometry.policy == .loop) ++ BitVec.ofBool (a.geometry.order == .columns) ++
         BitVec.ofBool a.isDefined ∧
       read 0x66 = 0#6 ++ a.geometry.firstColumn ∧ read 0x68 = 0#6 ++ a.geometry.lastColumn ∧
       read 0x6A = a.geometry.lastRow ++ a.geometry.firstRow ∧ read 0x6C = 0#5 ++ a.geometry.mark) ∧
    (∀ p : Port, read (BitVec.ofNat 8 (0x70 + 2 * p.val)) = (s.port p).reportFlags) ∧
    ((s.port s.window.returnLimitSelect).returnLimit ≤ 512 →
      read 0x78 = 0#2 ++ BitVec.ofNat 2 s.window.returnLimitSelect.val ++ 0#2 ++
        BitVec.ofNat 10 (s.port s.window.returnLimitSelect).returnLimit) ∧
    read 0x6E = 0 ∧ (∀ offset : BitVec 8, 0x7A ≤ offset.toNat → read offset = 0) ∧
    ∀ offset : BitVec 8, read offset = read (offset &&& 0xFE)) ∧
  ∀ s : State,
    let read : BitVec 8 → Word := fun offset => s.readRegister (registerAt offset)
    let index : Option Copy → BitVec 5 := fun copy => match copy with
      | some k => BitVec.ofNat 5 k.aperture.val
      | none => 0
    let generation : Option Copy → BitVec 8 := fun copy => match copy with
      | some k => k.generation
      | none => 0
    let rights : Option Copy → BitVec 2 := fun copy => match copy with
      | some k => BitVec.ofBool k.granted.write ++ BitVec.ofBool k.granted.read
      | none => 0
    let host : BitVec 3 := match s.hostContext.state with
      | .closed => 0
      | .opened => 1
      | .ended => 2
      | .retired => 4
    read 0x4C = BitVec.ofNat 16 s.window.ctxSelect.val ∧ read 0x54 = 0#13 ++ s.window.ctxHold ∧
    (∀ (p : Port) (t : Stream), s.window.ctxSelect.val = 4 * p.val + t.val → s.inFlight p t ≤ 4 →
      let c := s.context p t
      read 0x4E = 0#3 ++ index c.copy ++ BitVec.ofNat 3 (s.inFlight p t) ++
          BitVec.ofBool (isStale s.apertures c.copy) ++ BitVec.ofBool c.endIndicator ++
          (match c.state with
            | .empty => 0#3
            | .opened => 1#3
            | .ended => 2#3
            | .retiring => 3#3
            | .retired => 4#3) ∧
        read 0x50 = c.passes ++ generation c.copy ∧ read 0x52 = BitVec.ofNat 16 c.cursor ∧
        read 0x56 = 0#14 ++ rights c.copy ∧
        (∀ b : Binding, s.slot p t = some b →
          read 0x58 = 1#1 ++ 0#2 ++ BitVec.ofNat 5 b.aperture.val ++ 0#6 ++ BitVec.ofBool b.rights.write ++
            BitVec.ofBool b.rights.read) ∧
        (s.slot p t = none → read 0x58 = 0)) ∧
    (s.window.ctxSelect.val = 16 →
      read 0x4E = 0#3 ++ index s.hostContext.copy ++ 0#3 ++ BitVec.ofBool (isStale s.apertures s.hostContext.copy) ++
          0#1 ++ host ∧
        read 0x50 = s.hostContext.passes ++ generation s.hostContext.copy ∧
        read 0x52 = BitVec.ofNat 16 s.hostContext.cursor ∧ read 0x56 = 0#14 ++ rights s.hostContext.copy ∧
        read 0x58 = 0) ∧
    read 0x5C = rights s.hostContext.copy ++ 0#1 ++ index s.hostContext.copy ++ 0#3 ++
      BitVec.ofBool (isStale s.apertures s.hostContext.copy) ++ 0#1 ++ host ∧
    read 0x5E = BitVec.ofNat 16 s.hostContext.cursor ∧ read 0x60 = 0#13 ++ s.window.hostHold

/-! ### What every step keeps -/

/-- R1, log entry 20: every step keeps the canonical form of the band store, so equal stores are equal lists. -/
def Obligations.StoreCanonicalKeptByEveryStep : Prop :=
  ∀ s t : State, StoreCanonical s → step s = .next t → StoreCanonical t

/-- R169, R170, R175: "The fault queue holds at most 16 records and never two records with the same port, stream (or
absence of stream) and kind." "The repeat count of every fault record lies between 1 and 255." Every step keeps
this, and that an error counter counts to at most 127. -/
def Obligations.FaultQueueKeptByEveryStep : Prop :=
  ∀ s t : State, FaultQueueKept s → step s = .next t → FaultQueueKept t

/-- R15, R21, R22: "Every binding names an aperture table entry that is DEFINED." Every step keeps this, and that
the rights of a binding are not empty. -/
def Obligations.BindingsNameDefinedKeptByEveryStep : Prop :=
  ∀ s t : State, BindingsNameDefined s → step s = .next t → BindingsNameDefined t

/-- R23, R28, R37: "Every head context that is not EMPTY has a binding for its port and stream." "The cursor of a
context never exceeds the size of its aperture copy, and equals that size only when the context is ENDED, or
RETIRING having been ENDED." Every step keeps this, with the end indicator set in the last case. -/
def Obligations.ContextsKeptByEveryStep : Prop :=
  ∀ s t : State, ContextsKept s → step s = .next t → ContextsKept t

/-- R44, R61, R67, R73, R75, R81, R85, R103, R106, R108: every step keeps the bounds of every port's queues, that a
port is OFF exactly when its enable bit is 0, that a burst is open only in LISTENING and the receive timer runs only
in one, that the builder works, over an empty work queue, only in RESPONDING, that the return queue of a SUSPENDED
port is empty, that the ACK count is at most 65535, and that the return limit is 1..512. -/
def Obligations.PortsKeptByEveryStep : Prop :=
  ∀ s t : State, PortsKept s → step s = .next t → PortsKept t

/-- R125, R135, R144, R145: every step keeps that the unit is BUSY exactly while a drain is in progress, that a context
is RETIRING only then, that a drain in progress waits for an in-flight unit of every RETIRING context, and that the
drained and aborted counts are at most 255. -/
def Obligations.RetireEngineKeptByEveryStep : Prop :=
  ∀ s t : State, RetireEngineKept s → step s = .next t → RetireEngineKept t

/-- The state after power-on reset is kept in every one of these ways. -/
def Obligations.PowerOnStateIsKept : Prop :=
  StoreCanonical State.reset ∧ FaultQueueKept State.reset ∧ BindingsNameDefined State.reset ∧ ContextsKept State.reset ∧
    PortsKept State.reset ∧ RetireEngineKept State.reset
end

