-- ==== Sys2Proof/Laws/Bank.lean ====
section
/-! SUPPORT. The laws of a bank: what a place reads after a change, and when two banks are equal. -/

namespace Sys2Proof

@[simp] theorem Bank.get_set_self {n : Nat} {α : Type} (b : Bank n α) (i : Fin n) (x : α) : (b.set i x).get i = x := by
  simp [Bank.get, Bank.set, Vector.get_eq_getElem]

theorem Bank.get_set_ne {n : Nat} {α : Type} (b : Bank n α) {i j : Fin n} (x : α) (h : i ≠ j) :
    (b.set i x).get j = b.get j := by
  have : i.val ≠ j.val := fun e => h (Fin.ext e)
  simp [Bank.get, Bank.set, Vector.get_eq_getElem, this]

theorem Bank.get_set {n : Nat} {α : Type} (b : Bank n α) (i j : Fin n) (x : α) :
    (b.set i x).get j = if i = j then x else b.get j := by
  by_cases h : i = j
  · subst h; simp
  · simp [Bank.get_set_ne b x h, h]

@[simp] theorem Bank.get_fill {n : Nat} {α : Type} (i : Fin n) (x : α) : (Bank.fill n x).get i = x := by
  simp [Bank.get, Bank.fill, Vector.get_eq_getElem]

@[simp] theorem Bank.get_tabulate {n : Nat} {α : Type} (f : Fin n → α) (i : Fin n) : (Bank.tabulate f).get i = f i := by
  simp [Bank.get, Bank.tabulate, Vector.get_eq_getElem]

theorem Bank.ext_get {n : Nat} {α : Type} {a b : Bank n α} (h : ∀ i, a.get i = b.get i) : a = b := by
  cases a with
  | mk u =>
    cases b with
    | mk v =>
      congr 1
      ext i hi
      simpa [Bank.get, Vector.get_eq_getElem] using h ⟨i, hi⟩

@[simp] theorem Bank.set_get_self {n : Nat} {α : Type} (b : Bank n α) (i : Fin n) : b.set i (b.get i) = b :=
  Bank.ext_get fun j => by
    rw [Bank.get_set]
    split
    · next h => rw [h]
    · rfl

@[simp] theorem Bank.set_set {n : Nat} {α : Type} (b : Bank n α) (i : Fin n) (x y : α) :
    (b.set i x).set i y = b.set i y :=
  Bank.ext_get fun j => by simp only [Bank.get_set]; split <;> rfl

end Sys2Proof
end

