-- ==== Sys2Proof/Laws/State.lean ====
section
/-! SUPPORT. What each update of the state leaves: one lemma per field per update, and what the places of the tables
read after an update. -/

namespace Sys2Proof.Machine

/-! ### setPort -/

@[simp] theorem State.setPort_inReset (s : State) (p : Port) (x : PortState) :
    (s.setPort p x).inReset = s.inReset := rfl
@[simp] theorem State.setPort_powerOns (s : State) (p : Port) (x : PortState) :
    (s.setPort p x).powerOns = s.powerOns := rfl
@[simp] theorem State.setPort_freeCount (s : State) (p : Port) (x : PortState) :
    (s.setPort p x).freeCount = s.freeCount := rfl
@[simp] theorem State.setPort_store (s : State) (p : Port) (x : PortState) :
    (s.setPort p x).store = s.store := rfl
@[simp] theorem State.setPort_arbiter (s : State) (p : Port) (x : PortState) :
    (s.setPort p x).arbiter = s.arbiter := rfl
@[simp] theorem State.setPort_apertures (s : State) (p : Port) (x : PortState) :
    (s.setPort p x).apertures = s.apertures := rfl
@[simp] theorem State.setPort_marks (s : State) (p : Port) (x : PortState) :
    (s.setPort p x).marks = s.marks := rfl
@[simp] theorem State.setPort_bindings (s : State) (p : Port) (x : PortState) :
    (s.setPort p x).bindings = s.bindings := rfl
@[simp] theorem State.setPort_contexts (s : State) (p : Port) (x : PortState) :
    (s.setPort p x).contexts = s.contexts := rfl
@[simp] theorem State.setPort_hostContext (s : State) (p : Port) (x : PortState) :
    (s.setPort p x).hostContext = s.hostContext := rfl
@[simp] theorem State.setPort_command (s : State) (p : Port) (x : PortState) :
    (s.setPort p x).command = s.command := rfl
@[simp] theorem State.setPort_retire (s : State) (p : Port) (x : PortState) :
    (s.setPort p x).retire = s.retire := rfl
@[simp] theorem State.setPort_faults (s : State) (p : Port) (x : PortState) :
    (s.setPort p x).faults = s.faults := rfl
@[simp] theorem State.setPort_interrupts (s : State) (p : Port) (x : PortState) :
    (s.setPort p x).interrupts = s.interrupts := rfl
@[simp] theorem State.setPort_window (s : State) (p : Port) (x : PortState) :
    (s.setPort p x).window = s.window := rfl
@[simp] theorem State.setPort_bus (s : State) (p : Port) (x : PortState) :
    (s.setPort p x).bus = s.bus := rfl
@[simp] theorem State.setPort_pending (s : State) (p : Port) (x : PortState) :
    (s.setPort p x).pending = s.pending := rfl

/-! ### setContext -/

@[simp] theorem State.setContext_inReset (s : State) (p : Port) (t : Stream) (c : HeadContext) :
    (s.setContext p t c).inReset = s.inReset := rfl
@[simp] theorem State.setContext_powerOns (s : State) (p : Port) (t : Stream) (c : HeadContext) :
    (s.setContext p t c).powerOns = s.powerOns := rfl
@[simp] theorem State.setContext_freeCount (s : State) (p : Port) (t : Stream) (c : HeadContext) :
    (s.setContext p t c).freeCount = s.freeCount := rfl
@[simp] theorem State.setContext_store (s : State) (p : Port) (t : Stream) (c : HeadContext) :
    (s.setContext p t c).store = s.store := rfl
@[simp] theorem State.setContext_arbiter (s : State) (p : Port) (t : Stream) (c : HeadContext) :
    (s.setContext p t c).arbiter = s.arbiter := rfl
@[simp] theorem State.setContext_apertures (s : State) (p : Port) (t : Stream) (c : HeadContext) :
    (s.setContext p t c).apertures = s.apertures := rfl
@[simp] theorem State.setContext_marks (s : State) (p : Port) (t : Stream) (c : HeadContext) :
    (s.setContext p t c).marks = s.marks := rfl
@[simp] theorem State.setContext_bindings (s : State) (p : Port) (t : Stream) (c : HeadContext) :
    (s.setContext p t c).bindings = s.bindings := rfl
@[simp] theorem State.setContext_hostContext (s : State) (p : Port) (t : Stream) (c : HeadContext) :
    (s.setContext p t c).hostContext = s.hostContext := rfl
@[simp] theorem State.setContext_ports (s : State) (p : Port) (t : Stream) (c : HeadContext) :
    (s.setContext p t c).ports = s.ports := rfl
@[simp] theorem State.setContext_command (s : State) (p : Port) (t : Stream) (c : HeadContext) :
    (s.setContext p t c).command = s.command := rfl
@[simp] theorem State.setContext_retire (s : State) (p : Port) (t : Stream) (c : HeadContext) :
    (s.setContext p t c).retire = s.retire := rfl
@[simp] theorem State.setContext_faults (s : State) (p : Port) (t : Stream) (c : HeadContext) :
    (s.setContext p t c).faults = s.faults := rfl
@[simp] theorem State.setContext_interrupts (s : State) (p : Port) (t : Stream) (c : HeadContext) :
    (s.setContext p t c).interrupts = s.interrupts := rfl
@[simp] theorem State.setContext_window (s : State) (p : Port) (t : Stream) (c : HeadContext) :
    (s.setContext p t c).window = s.window := rfl
@[simp] theorem State.setContext_bus (s : State) (p : Port) (t : Stream) (c : HeadContext) :
    (s.setContext p t c).bus = s.bus := rfl
@[simp] theorem State.setContext_pending (s : State) (p : Port) (t : Stream) (c : HeadContext) :
    (s.setContext p t c).pending = s.pending := rfl

/-! ### setSlot -/

@[simp] theorem State.setSlot_inReset (s : State) (p : Port) (t : Stream) (b : Option Binding) :
    (s.setSlot p t b).inReset = s.inReset := rfl
@[simp] theorem State.setSlot_powerOns (s : State) (p : Port) (t : Stream) (b : Option Binding) :
    (s.setSlot p t b).powerOns = s.powerOns := rfl
@[simp] theorem State.setSlot_freeCount (s : State) (p : Port) (t : Stream) (b : Option Binding) :
    (s.setSlot p t b).freeCount = s.freeCount := rfl
@[simp] theorem State.setSlot_store (s : State) (p : Port) (t : Stream) (b : Option Binding) :
    (s.setSlot p t b).store = s.store := rfl
@[simp] theorem State.setSlot_arbiter (s : State) (p : Port) (t : Stream) (b : Option Binding) :
    (s.setSlot p t b).arbiter = s.arbiter := rfl
@[simp] theorem State.setSlot_apertures (s : State) (p : Port) (t : Stream) (b : Option Binding) :
    (s.setSlot p t b).apertures = s.apertures := rfl
@[simp] theorem State.setSlot_marks (s : State) (p : Port) (t : Stream) (b : Option Binding) :
    (s.setSlot p t b).marks = s.marks := rfl
@[simp] theorem State.setSlot_contexts (s : State) (p : Port) (t : Stream) (b : Option Binding) :
    (s.setSlot p t b).contexts = s.contexts := rfl
@[simp] theorem State.setSlot_hostContext (s : State) (p : Port) (t : Stream) (b : Option Binding) :
    (s.setSlot p t b).hostContext = s.hostContext := rfl
@[simp] theorem State.setSlot_ports (s : State) (p : Port) (t : Stream) (b : Option Binding) :
    (s.setSlot p t b).ports = s.ports := rfl
@[simp] theorem State.setSlot_command (s : State) (p : Port) (t : Stream) (b : Option Binding) :
    (s.setSlot p t b).command = s.command := rfl
@[simp] theorem State.setSlot_retire (s : State) (p : Port) (t : Stream) (b : Option Binding) :
    (s.setSlot p t b).retire = s.retire := rfl
@[simp] theorem State.setSlot_faults (s : State) (p : Port) (t : Stream) (b : Option Binding) :
    (s.setSlot p t b).faults = s.faults := rfl
@[simp] theorem State.setSlot_interrupts (s : State) (p : Port) (t : Stream) (b : Option Binding) :
    (s.setSlot p t b).interrupts = s.interrupts := rfl
@[simp] theorem State.setSlot_window (s : State) (p : Port) (t : Stream) (b : Option Binding) :
    (s.setSlot p t b).window = s.window := rfl
@[simp] theorem State.setSlot_bus (s : State) (p : Port) (t : Stream) (b : Option Binding) :
    (s.setSlot p t b).bus = s.bus := rfl
@[simp] theorem State.setSlot_pending (s : State) (p : Port) (t : Stream) (b : Option Binding) :
    (s.setSlot p t b).pending = s.pending := rfl

/-! ### setAperture -/

@[simp] theorem State.setAperture_inReset (s : State) (n : ApIndex) (a : Aperture) :
    (s.setAperture n a).inReset = s.inReset := rfl
@[simp] theorem State.setAperture_powerOns (s : State) (n : ApIndex) (a : Aperture) :
    (s.setAperture n a).powerOns = s.powerOns := rfl
@[simp] theorem State.setAperture_freeCount (s : State) (n : ApIndex) (a : Aperture) :
    (s.setAperture n a).freeCount = s.freeCount := rfl
@[simp] theorem State.setAperture_store (s : State) (n : ApIndex) (a : Aperture) :
    (s.setAperture n a).store = s.store := rfl
@[simp] theorem State.setAperture_arbiter (s : State) (n : ApIndex) (a : Aperture) :
    (s.setAperture n a).arbiter = s.arbiter := rfl
@[simp] theorem State.setAperture_marks (s : State) (n : ApIndex) (a : Aperture) :
    (s.setAperture n a).marks = s.marks := rfl
@[simp] theorem State.setAperture_bindings (s : State) (n : ApIndex) (a : Aperture) :
    (s.setAperture n a).bindings = s.bindings := rfl
@[simp] theorem State.setAperture_contexts (s : State) (n : ApIndex) (a : Aperture) :
    (s.setAperture n a).contexts = s.contexts := rfl
@[simp] theorem State.setAperture_hostContext (s : State) (n : ApIndex) (a : Aperture) :
    (s.setAperture n a).hostContext = s.hostContext := rfl
@[simp] theorem State.setAperture_ports (s : State) (n : ApIndex) (a : Aperture) :
    (s.setAperture n a).ports = s.ports := rfl
@[simp] theorem State.setAperture_command (s : State) (n : ApIndex) (a : Aperture) :
    (s.setAperture n a).command = s.command := rfl
@[simp] theorem State.setAperture_retire (s : State) (n : ApIndex) (a : Aperture) :
    (s.setAperture n a).retire = s.retire := rfl
@[simp] theorem State.setAperture_faults (s : State) (n : ApIndex) (a : Aperture) :
    (s.setAperture n a).faults = s.faults := rfl
@[simp] theorem State.setAperture_interrupts (s : State) (n : ApIndex) (a : Aperture) :
    (s.setAperture n a).interrupts = s.interrupts := rfl
@[simp] theorem State.setAperture_window (s : State) (n : ApIndex) (a : Aperture) :
    (s.setAperture n a).window = s.window := rfl
@[simp] theorem State.setAperture_bus (s : State) (n : ApIndex) (a : Aperture) :
    (s.setAperture n a).bus = s.bus := rfl
@[simp] theorem State.setAperture_pending (s : State) (n : ApIndex) (a : Aperture) :
    (s.setAperture n a).pending = s.pending := rfl

/-! ### setRequest -/

@[simp] theorem State.setRequest_inReset (s : State) (p : Port) (r : Option Request) :
    (s.setRequest p r).inReset = s.inReset := rfl
@[simp] theorem State.setRequest_powerOns (s : State) (p : Port) (r : Option Request) :
    (s.setRequest p r).powerOns = s.powerOns := rfl
@[simp] theorem State.setRequest_freeCount (s : State) (p : Port) (r : Option Request) :
    (s.setRequest p r).freeCount = s.freeCount := rfl
@[simp] theorem State.setRequest_store (s : State) (p : Port) (r : Option Request) :
    (s.setRequest p r).store = s.store := rfl
@[simp] theorem State.setRequest_apertures (s : State) (p : Port) (r : Option Request) :
    (s.setRequest p r).apertures = s.apertures := rfl
@[simp] theorem State.setRequest_marks (s : State) (p : Port) (r : Option Request) :
    (s.setRequest p r).marks = s.marks := rfl
@[simp] theorem State.setRequest_bindings (s : State) (p : Port) (r : Option Request) :
    (s.setRequest p r).bindings = s.bindings := rfl
@[simp] theorem State.setRequest_contexts (s : State) (p : Port) (r : Option Request) :
    (s.setRequest p r).contexts = s.contexts := rfl
@[simp] theorem State.setRequest_hostContext (s : State) (p : Port) (r : Option Request) :
    (s.setRequest p r).hostContext = s.hostContext := rfl
@[simp] theorem State.setRequest_ports (s : State) (p : Port) (r : Option Request) :
    (s.setRequest p r).ports = s.ports := rfl
@[simp] theorem State.setRequest_command (s : State) (p : Port) (r : Option Request) :
    (s.setRequest p r).command = s.command := rfl
@[simp] theorem State.setRequest_retire (s : State) (p : Port) (r : Option Request) :
    (s.setRequest p r).retire = s.retire := rfl
@[simp] theorem State.setRequest_faults (s : State) (p : Port) (r : Option Request) :
    (s.setRequest p r).faults = s.faults := rfl
@[simp] theorem State.setRequest_interrupts (s : State) (p : Port) (r : Option Request) :
    (s.setRequest p r).interrupts = s.interrupts := rfl
@[simp] theorem State.setRequest_window (s : State) (p : Port) (r : Option Request) :
    (s.setRequest p r).window = s.window := rfl
@[simp] theorem State.setRequest_bus (s : State) (p : Port) (r : Option Request) :
    (s.setRequest p r).bus = s.bus := rfl
@[simp] theorem State.setRequest_pending (s : State) (p : Port) (r : Option Request) :
    (s.setRequest p r).pending = s.pending := rfl

/-! ### writeCell -/

@[simp] theorem State.writeCell_inReset (s : State) (row : BitVec 8) (column : BitVec 10) (v : Word) :
    (s.writeCell row column v).inReset = s.inReset := rfl
@[simp] theorem State.writeCell_powerOns (s : State) (row : BitVec 8) (column : BitVec 10) (v : Word) :
    (s.writeCell row column v).powerOns = s.powerOns := rfl
@[simp] theorem State.writeCell_freeCount (s : State) (row : BitVec 8) (column : BitVec 10) (v : Word) :
    (s.writeCell row column v).freeCount = s.freeCount := rfl
@[simp] theorem State.writeCell_arbiter (s : State) (row : BitVec 8) (column : BitVec 10) (v : Word) :
    (s.writeCell row column v).arbiter = s.arbiter := rfl
@[simp] theorem State.writeCell_apertures (s : State) (row : BitVec 8) (column : BitVec 10) (v : Word) :
    (s.writeCell row column v).apertures = s.apertures := rfl
@[simp] theorem State.writeCell_marks (s : State) (row : BitVec 8) (column : BitVec 10) (v : Word) :
    (s.writeCell row column v).marks = s.marks := rfl
@[simp] theorem State.writeCell_bindings (s : State) (row : BitVec 8) (column : BitVec 10) (v : Word) :
    (s.writeCell row column v).bindings = s.bindings := rfl
@[simp] theorem State.writeCell_contexts (s : State) (row : BitVec 8) (column : BitVec 10) (v : Word) :
    (s.writeCell row column v).contexts = s.contexts := rfl
@[simp] theorem State.writeCell_hostContext (s : State) (row : BitVec 8) (column : BitVec 10) (v : Word) :
    (s.writeCell row column v).hostContext = s.hostContext := rfl
@[simp] theorem State.writeCell_ports (s : State) (row : BitVec 8) (column : BitVec 10) (v : Word) :
    (s.writeCell row column v).ports = s.ports := rfl
@[simp] theorem State.writeCell_command (s : State) (row : BitVec 8) (column : BitVec 10) (v : Word) :
    (s.writeCell row column v).command = s.command := rfl
@[simp] theorem State.writeCell_retire (s : State) (row : BitVec 8) (column : BitVec 10) (v : Word) :
    (s.writeCell row column v).retire = s.retire := rfl
@[simp] theorem State.writeCell_faults (s : State) (row : BitVec 8) (column : BitVec 10) (v : Word) :
    (s.writeCell row column v).faults = s.faults := rfl
@[simp] theorem State.writeCell_interrupts (s : State) (row : BitVec 8) (column : BitVec 10) (v : Word) :
    (s.writeCell row column v).interrupts = s.interrupts := rfl
@[simp] theorem State.writeCell_window (s : State) (row : BitVec 8) (column : BitVec 10) (v : Word) :
    (s.writeCell row column v).window = s.window := rfl
@[simp] theorem State.writeCell_bus (s : State) (row : BitVec 8) (column : BitVec 10) (v : Word) :
    (s.writeCell row column v).bus = s.bus := rfl
@[simp] theorem State.writeCell_pending (s : State) (row : BitVec 8) (column : BitVec 10) (v : Word) :
    (s.writeCell row column v).pending = s.pending := rfl

/-! ### setReportFlag -/

@[simp] theorem State.setReportFlag_inReset (s : State) (p : Port) (k : FaultKind) :
    (s.setReportFlag p k).inReset = s.inReset := rfl
@[simp] theorem State.setReportFlag_powerOns (s : State) (p : Port) (k : FaultKind) :
    (s.setReportFlag p k).powerOns = s.powerOns := rfl
@[simp] theorem State.setReportFlag_freeCount (s : State) (p : Port) (k : FaultKind) :
    (s.setReportFlag p k).freeCount = s.freeCount := rfl
@[simp] theorem State.setReportFlag_store (s : State) (p : Port) (k : FaultKind) :
    (s.setReportFlag p k).store = s.store := rfl
@[simp] theorem State.setReportFlag_arbiter (s : State) (p : Port) (k : FaultKind) :
    (s.setReportFlag p k).arbiter = s.arbiter := rfl
@[simp] theorem State.setReportFlag_apertures (s : State) (p : Port) (k : FaultKind) :
    (s.setReportFlag p k).apertures = s.apertures := rfl
@[simp] theorem State.setReportFlag_marks (s : State) (p : Port) (k : FaultKind) :
    (s.setReportFlag p k).marks = s.marks := rfl
@[simp] theorem State.setReportFlag_bindings (s : State) (p : Port) (k : FaultKind) :
    (s.setReportFlag p k).bindings = s.bindings := rfl
@[simp] theorem State.setReportFlag_contexts (s : State) (p : Port) (k : FaultKind) :
    (s.setReportFlag p k).contexts = s.contexts := rfl
@[simp] theorem State.setReportFlag_hostContext (s : State) (p : Port) (k : FaultKind) :
    (s.setReportFlag p k).hostContext = s.hostContext := rfl
@[simp] theorem State.setReportFlag_command (s : State) (p : Port) (k : FaultKind) :
    (s.setReportFlag p k).command = s.command := rfl
@[simp] theorem State.setReportFlag_retire (s : State) (p : Port) (k : FaultKind) :
    (s.setReportFlag p k).retire = s.retire := rfl
@[simp] theorem State.setReportFlag_faults (s : State) (p : Port) (k : FaultKind) :
    (s.setReportFlag p k).faults = s.faults := rfl
@[simp] theorem State.setReportFlag_interrupts (s : State) (p : Port) (k : FaultKind) :
    (s.setReportFlag p k).interrupts = s.interrupts := rfl
@[simp] theorem State.setReportFlag_window (s : State) (p : Port) (k : FaultKind) :
    (s.setReportFlag p k).window = s.window := rfl
@[simp] theorem State.setReportFlag_bus (s : State) (p : Port) (k : FaultKind) :
    (s.setReportFlag p k).bus = s.bus := rfl
@[simp] theorem State.setReportFlag_pending (s : State) (p : Port) (k : FaultKind) :
    (s.setReportFlag p k).pending = s.pending := rfl

/-! ### countAck -/

@[simp] theorem State.countAck_inReset (s : State) (p : Port) :
    (s.countAck p).inReset = s.inReset := rfl
@[simp] theorem State.countAck_powerOns (s : State) (p : Port) :
    (s.countAck p).powerOns = s.powerOns := rfl
@[simp] theorem State.countAck_freeCount (s : State) (p : Port) :
    (s.countAck p).freeCount = s.freeCount := rfl
@[simp] theorem State.countAck_store (s : State) (p : Port) :
    (s.countAck p).store = s.store := rfl
@[simp] theorem State.countAck_arbiter (s : State) (p : Port) :
    (s.countAck p).arbiter = s.arbiter := rfl
@[simp] theorem State.countAck_apertures (s : State) (p : Port) :
    (s.countAck p).apertures = s.apertures := rfl
@[simp] theorem State.countAck_marks (s : State) (p : Port) :
    (s.countAck p).marks = s.marks := rfl
@[simp] theorem State.countAck_bindings (s : State) (p : Port) :
    (s.countAck p).bindings = s.bindings := rfl
@[simp] theorem State.countAck_contexts (s : State) (p : Port) :
    (s.countAck p).contexts = s.contexts := rfl
@[simp] theorem State.countAck_hostContext (s : State) (p : Port) :
    (s.countAck p).hostContext = s.hostContext := rfl
@[simp] theorem State.countAck_command (s : State) (p : Port) :
    (s.countAck p).command = s.command := rfl
@[simp] theorem State.countAck_retire (s : State) (p : Port) :
    (s.countAck p).retire = s.retire := rfl
@[simp] theorem State.countAck_faults (s : State) (p : Port) :
    (s.countAck p).faults = s.faults := rfl
@[simp] theorem State.countAck_interrupts (s : State) (p : Port) :
    (s.countAck p).interrupts = s.interrupts := rfl
@[simp] theorem State.countAck_window (s : State) (p : Port) :
    (s.countAck p).window = s.window := rfl
@[simp] theorem State.countAck_bus (s : State) (p : Port) :
    (s.countAck p).bus = s.bus := rfl
@[simp] theorem State.countAck_pending (s : State) (p : Port) :
    (s.countAck p).pending = s.pending := rfl

/-! ### countClaim -/

@[simp] theorem State.countClaim_inReset (s : State) (source : Source) :
    (s.countClaim source).inReset = s.inReset := rfl
@[simp] theorem State.countClaim_powerOns (s : State) (source : Source) :
    (s.countClaim source).powerOns = s.powerOns := rfl
@[simp] theorem State.countClaim_freeCount (s : State) (source : Source) :
    (s.countClaim source).freeCount = s.freeCount := rfl
@[simp] theorem State.countClaim_store (s : State) (source : Source) :
    (s.countClaim source).store = s.store := rfl
@[simp] theorem State.countClaim_arbiter (s : State) (source : Source) :
    (s.countClaim source).arbiter = s.arbiter := rfl
@[simp] theorem State.countClaim_apertures (s : State) (source : Source) :
    (s.countClaim source).apertures = s.apertures := rfl
@[simp] theorem State.countClaim_marks (s : State) (source : Source) :
    (s.countClaim source).marks = s.marks := rfl
@[simp] theorem State.countClaim_bindings (s : State) (source : Source) :
    (s.countClaim source).bindings = s.bindings := rfl
@[simp] theorem State.countClaim_contexts (s : State) (source : Source) :
    (s.countClaim source).contexts = s.contexts := rfl
@[simp] theorem State.countClaim_hostContext (s : State) (source : Source) :
    (s.countClaim source).hostContext = s.hostContext := rfl
@[simp] theorem State.countClaim_ports (s : State) (source : Source) :
    (s.countClaim source).ports = s.ports := rfl
@[simp] theorem State.countClaim_command (s : State) (source : Source) :
    (s.countClaim source).command = s.command := rfl
@[simp] theorem State.countClaim_retire (s : State) (source : Source) :
    (s.countClaim source).retire = s.retire := rfl
@[simp] theorem State.countClaim_window (s : State) (source : Source) :
    (s.countClaim source).window = s.window := rfl
@[simp] theorem State.countClaim_bus (s : State) (source : Source) :
    (s.countClaim source).bus = s.bus := rfl
@[simp] theorem State.countClaim_pending (s : State) (source : Source) :
    (s.countClaim source).pending = s.pending := rfl

/-! ### setAlert -/

@[simp] theorem State.setAlert_inReset (s : State) :
    (s.setAlert).inReset = s.inReset := rfl
@[simp] theorem State.setAlert_powerOns (s : State) :
    (s.setAlert).powerOns = s.powerOns := rfl
@[simp] theorem State.setAlert_freeCount (s : State) :
    (s.setAlert).freeCount = s.freeCount := rfl
@[simp] theorem State.setAlert_store (s : State) :
    (s.setAlert).store = s.store := rfl
@[simp] theorem State.setAlert_arbiter (s : State) :
    (s.setAlert).arbiter = s.arbiter := rfl
@[simp] theorem State.setAlert_apertures (s : State) :
    (s.setAlert).apertures = s.apertures := rfl
@[simp] theorem State.setAlert_marks (s : State) :
    (s.setAlert).marks = s.marks := rfl
@[simp] theorem State.setAlert_bindings (s : State) :
    (s.setAlert).bindings = s.bindings := rfl
@[simp] theorem State.setAlert_contexts (s : State) :
    (s.setAlert).contexts = s.contexts := rfl
@[simp] theorem State.setAlert_hostContext (s : State) :
    (s.setAlert).hostContext = s.hostContext := rfl
@[simp] theorem State.setAlert_ports (s : State) :
    (s.setAlert).ports = s.ports := rfl
@[simp] theorem State.setAlert_command (s : State) :
    (s.setAlert).command = s.command := rfl
@[simp] theorem State.setAlert_retire (s : State) :
    (s.setAlert).retire = s.retire := rfl
@[simp] theorem State.setAlert_interrupts (s : State) :
    (s.setAlert).interrupts = s.interrupts := rfl
@[simp] theorem State.setAlert_window (s : State) :
    (s.setAlert).window = s.window := rfl
@[simp] theorem State.setAlert_bus (s : State) :
    (s.setAlert).bus = s.bus := rfl
@[simp] theorem State.setAlert_pending (s : State) :
    (s.setAlert).pending = s.pending := rfl

/-! ### setSuspendLatch -/

@[simp] theorem State.setSuspendLatch_inReset (s : State) (p : Port) :
    (s.setSuspendLatch p).inReset = s.inReset := rfl
@[simp] theorem State.setSuspendLatch_powerOns (s : State) (p : Port) :
    (s.setSuspendLatch p).powerOns = s.powerOns := rfl
@[simp] theorem State.setSuspendLatch_freeCount (s : State) (p : Port) :
    (s.setSuspendLatch p).freeCount = s.freeCount := rfl
@[simp] theorem State.setSuspendLatch_store (s : State) (p : Port) :
    (s.setSuspendLatch p).store = s.store := rfl
@[simp] theorem State.setSuspendLatch_arbiter (s : State) (p : Port) :
    (s.setSuspendLatch p).arbiter = s.arbiter := rfl
@[simp] theorem State.setSuspendLatch_apertures (s : State) (p : Port) :
    (s.setSuspendLatch p).apertures = s.apertures := rfl
@[simp] theorem State.setSuspendLatch_marks (s : State) (p : Port) :
    (s.setSuspendLatch p).marks = s.marks := rfl
@[simp] theorem State.setSuspendLatch_bindings (s : State) (p : Port) :
    (s.setSuspendLatch p).bindings = s.bindings := rfl
@[simp] theorem State.setSuspendLatch_contexts (s : State) (p : Port) :
    (s.setSuspendLatch p).contexts = s.contexts := rfl
@[simp] theorem State.setSuspendLatch_hostContext (s : State) (p : Port) :
    (s.setSuspendLatch p).hostContext = s.hostContext := rfl
@[simp] theorem State.setSuspendLatch_ports (s : State) (p : Port) :
    (s.setSuspendLatch p).ports = s.ports := rfl
@[simp] theorem State.setSuspendLatch_command (s : State) (p : Port) :
    (s.setSuspendLatch p).command = s.command := rfl
@[simp] theorem State.setSuspendLatch_retire (s : State) (p : Port) :
    (s.setSuspendLatch p).retire = s.retire := rfl
@[simp] theorem State.setSuspendLatch_faults (s : State) (p : Port) :
    (s.setSuspendLatch p).faults = s.faults := rfl
@[simp] theorem State.setSuspendLatch_window (s : State) (p : Port) :
    (s.setSuspendLatch p).window = s.window := rfl
@[simp] theorem State.setSuspendLatch_bus (s : State) (p : Port) :
    (s.setSuspendLatch p).bus = s.bus := rfl
@[simp] theorem State.setSuspendLatch_pending (s : State) (p : Port) :
    (s.setSuspendLatch p).pending = s.pending := rfl

/-! ### completeWith -/

@[simp] theorem State.completeWith_inReset (s : State) (code : ResultCode) (d0 d1 d2 : Nat) :
    (s.completeWith code d0 d1 d2).inReset = s.inReset := rfl
@[simp] theorem State.completeWith_powerOns (s : State) (code : ResultCode) (d0 d1 d2 : Nat) :
    (s.completeWith code d0 d1 d2).powerOns = s.powerOns := rfl
@[simp] theorem State.completeWith_freeCount (s : State) (code : ResultCode) (d0 d1 d2 : Nat) :
    (s.completeWith code d0 d1 d2).freeCount = s.freeCount := rfl
@[simp] theorem State.completeWith_store (s : State) (code : ResultCode) (d0 d1 d2 : Nat) :
    (s.completeWith code d0 d1 d2).store = s.store := rfl
@[simp] theorem State.completeWith_arbiter (s : State) (code : ResultCode) (d0 d1 d2 : Nat) :
    (s.completeWith code d0 d1 d2).arbiter = s.arbiter := rfl
@[simp] theorem State.completeWith_apertures (s : State) (code : ResultCode) (d0 d1 d2 : Nat) :
    (s.completeWith code d0 d1 d2).apertures = s.apertures := rfl
@[simp] theorem State.completeWith_marks (s : State) (code : ResultCode) (d0 d1 d2 : Nat) :
    (s.completeWith code d0 d1 d2).marks = s.marks := rfl
@[simp] theorem State.completeWith_bindings (s : State) (code : ResultCode) (d0 d1 d2 : Nat) :
    (s.completeWith code d0 d1 d2).bindings = s.bindings := rfl
@[simp] theorem State.completeWith_contexts (s : State) (code : ResultCode) (d0 d1 d2 : Nat) :
    (s.completeWith code d0 d1 d2).contexts = s.contexts := rfl
@[simp] theorem State.completeWith_hostContext (s : State) (code : ResultCode) (d0 d1 d2 : Nat) :
    (s.completeWith code d0 d1 d2).hostContext = s.hostContext := rfl
@[simp] theorem State.completeWith_ports (s : State) (code : ResultCode) (d0 d1 d2 : Nat) :
    (s.completeWith code d0 d1 d2).ports = s.ports := rfl
@[simp] theorem State.completeWith_retire (s : State) (code : ResultCode) (d0 d1 d2 : Nat) :
    (s.completeWith code d0 d1 d2).retire = s.retire := rfl
@[simp] theorem State.completeWith_faults (s : State) (code : ResultCode) (d0 d1 d2 : Nat) :
    (s.completeWith code d0 d1 d2).faults = s.faults := rfl
@[simp] theorem State.completeWith_window (s : State) (code : ResultCode) (d0 d1 d2 : Nat) :
    (s.completeWith code d0 d1 d2).window = s.window := rfl
@[simp] theorem State.completeWith_bus (s : State) (code : ResultCode) (d0 d1 d2 : Nat) :
    (s.completeWith code d0 d1 d2).bus = s.bus := rfl
@[simp] theorem State.completeWith_pending (s : State) (code : ResultCode) (d0 d1 d2 : Nat) :
    (s.completeWith code d0 d1 d2).pending = s.pending := rfl

/-! ### completeRetire -/

@[simp] theorem State.completeRetire_inReset (s : State) (code : ResultCode) :
    (s.completeRetire code).inReset = s.inReset := rfl
@[simp] theorem State.completeRetire_powerOns (s : State) (code : ResultCode) :
    (s.completeRetire code).powerOns = s.powerOns := rfl
@[simp] theorem State.completeRetire_freeCount (s : State) (code : ResultCode) :
    (s.completeRetire code).freeCount = s.freeCount := rfl
@[simp] theorem State.completeRetire_store (s : State) (code : ResultCode) :
    (s.completeRetire code).store = s.store := rfl
@[simp] theorem State.completeRetire_arbiter (s : State) (code : ResultCode) :
    (s.completeRetire code).arbiter = s.arbiter := rfl
@[simp] theorem State.completeRetire_apertures (s : State) (code : ResultCode) :
    (s.completeRetire code).apertures = s.apertures := rfl
@[simp] theorem State.completeRetire_marks (s : State) (code : ResultCode) :
    (s.completeRetire code).marks = s.marks := rfl
@[simp] theorem State.completeRetire_bindings (s : State) (code : ResultCode) :
    (s.completeRetire code).bindings = s.bindings := rfl
@[simp] theorem State.completeRetire_contexts (s : State) (code : ResultCode) :
    (s.completeRetire code).contexts = s.contexts := rfl
@[simp] theorem State.completeRetire_hostContext (s : State) (code : ResultCode) :
    (s.completeRetire code).hostContext = s.hostContext := rfl
@[simp] theorem State.completeRetire_ports (s : State) (code : ResultCode) :
    (s.completeRetire code).ports = s.ports := rfl
@[simp] theorem State.completeRetire_faults (s : State) (code : ResultCode) :
    (s.completeRetire code).faults = s.faults := rfl
@[simp] theorem State.completeRetire_window (s : State) (code : ResultCode) :
    (s.completeRetire code).window = s.window := rfl
@[simp] theorem State.completeRetire_bus (s : State) (code : ResultCode) :
    (s.completeRetire code).bus = s.bus := rfl
@[simp] theorem State.completeRetire_pending (s : State) (code : ResultCode) :
    (s.completeRetire code).pending = s.pending := rfl

/-! ### endWalk -/

@[simp] theorem State.endWalk_inReset (s : State) (p : Port) (t : Stream) :
    (s.endWalk p t).inReset = s.inReset := rfl
@[simp] theorem State.endWalk_powerOns (s : State) (p : Port) (t : Stream) :
    (s.endWalk p t).powerOns = s.powerOns := rfl
@[simp] theorem State.endWalk_freeCount (s : State) (p : Port) (t : Stream) :
    (s.endWalk p t).freeCount = s.freeCount := rfl
@[simp] theorem State.endWalk_store (s : State) (p : Port) (t : Stream) :
    (s.endWalk p t).store = s.store := rfl
@[simp] theorem State.endWalk_apertures (s : State) (p : Port) (t : Stream) :
    (s.endWalk p t).apertures = s.apertures := rfl
@[simp] theorem State.endWalk_marks (s : State) (p : Port) (t : Stream) :
    (s.endWalk p t).marks = s.marks := rfl
@[simp] theorem State.endWalk_bindings (s : State) (p : Port) (t : Stream) :
    (s.endWalk p t).bindings = s.bindings := rfl
@[simp] theorem State.endWalk_contexts (s : State) (p : Port) (t : Stream) :
    (s.endWalk p t).contexts = s.contexts := rfl
@[simp] theorem State.endWalk_hostContext (s : State) (p : Port) (t : Stream) :
    (s.endWalk p t).hostContext = s.hostContext := rfl
@[simp] theorem State.endWalk_ports (s : State) (p : Port) (t : Stream) :
    (s.endWalk p t).ports = s.ports := rfl
@[simp] theorem State.endWalk_command (s : State) (p : Port) (t : Stream) :
    (s.endWalk p t).command = s.command := rfl
@[simp] theorem State.endWalk_retire (s : State) (p : Port) (t : Stream) :
    (s.endWalk p t).retire = s.retire := rfl
@[simp] theorem State.endWalk_faults (s : State) (p : Port) (t : Stream) :
    (s.endWalk p t).faults = s.faults := rfl
@[simp] theorem State.endWalk_interrupts (s : State) (p : Port) (t : Stream) :
    (s.endWalk p t).interrupts = s.interrupts := rfl
@[simp] theorem State.endWalk_window (s : State) (p : Port) (t : Stream) :
    (s.endWalk p t).window = s.window := rfl
@[simp] theorem State.endWalk_bus (s : State) (p : Port) (t : Stream) :
    (s.endWalk p t).bus = s.bus := rfl
@[simp] theorem State.endWalk_pending (s : State) (p : Port) (t : Stream) :
    (s.endWalk p t).pending = s.pending := rfl

/-! ### dropRequestValue -/

@[simp] theorem State.dropRequestValue_inReset (s : State) (p : Port) :
    (s.dropRequestValue p).inReset = s.inReset := rfl
@[simp] theorem State.dropRequestValue_powerOns (s : State) (p : Port) :
    (s.dropRequestValue p).powerOns = s.powerOns := rfl
@[simp] theorem State.dropRequestValue_freeCount (s : State) (p : Port) :
    (s.dropRequestValue p).freeCount = s.freeCount := rfl
@[simp] theorem State.dropRequestValue_store (s : State) (p : Port) :
    (s.dropRequestValue p).store = s.store := rfl
@[simp] theorem State.dropRequestValue_apertures (s : State) (p : Port) :
    (s.dropRequestValue p).apertures = s.apertures := rfl
@[simp] theorem State.dropRequestValue_marks (s : State) (p : Port) :
    (s.dropRequestValue p).marks = s.marks := rfl
@[simp] theorem State.dropRequestValue_bindings (s : State) (p : Port) :
    (s.dropRequestValue p).bindings = s.bindings := rfl
@[simp] theorem State.dropRequestValue_contexts (s : State) (p : Port) :
    (s.dropRequestValue p).contexts = s.contexts := rfl
@[simp] theorem State.dropRequestValue_hostContext (s : State) (p : Port) :
    (s.dropRequestValue p).hostContext = s.hostContext := rfl
@[simp] theorem State.dropRequestValue_ports (s : State) (p : Port) :
    (s.dropRequestValue p).ports = s.ports := rfl
@[simp] theorem State.dropRequestValue_command (s : State) (p : Port) :
    (s.dropRequestValue p).command = s.command := rfl
@[simp] theorem State.dropRequestValue_retire (s : State) (p : Port) :
    (s.dropRequestValue p).retire = s.retire := rfl
@[simp] theorem State.dropRequestValue_faults (s : State) (p : Port) :
    (s.dropRequestValue p).faults = s.faults := rfl
@[simp] theorem State.dropRequestValue_interrupts (s : State) (p : Port) :
    (s.dropRequestValue p).interrupts = s.interrupts := rfl
@[simp] theorem State.dropRequestValue_window (s : State) (p : Port) :
    (s.dropRequestValue p).window = s.window := rfl
@[simp] theorem State.dropRequestValue_bus (s : State) (p : Port) :
    (s.dropRequestValue p).bus = s.bus := rfl
@[simp] theorem State.dropRequestValue_pending (s : State) (p : Port) :
    (s.dropRequestValue p).pending = s.pending := rfl

/-! ### setHostContext -/

@[simp] theorem State.setHostContext_inReset (s : State) (c : HostContext) :
    (s.setHostContext c).inReset = s.inReset := rfl
@[simp] theorem State.setHostContext_powerOns (s : State) (c : HostContext) :
    (s.setHostContext c).powerOns = s.powerOns := rfl
@[simp] theorem State.setHostContext_freeCount (s : State) (c : HostContext) :
    (s.setHostContext c).freeCount = s.freeCount := rfl
@[simp] theorem State.setHostContext_store (s : State) (c : HostContext) :
    (s.setHostContext c).store = s.store := rfl
@[simp] theorem State.setHostContext_arbiter (s : State) (c : HostContext) :
    (s.setHostContext c).arbiter = s.arbiter := rfl
@[simp] theorem State.setHostContext_apertures (s : State) (c : HostContext) :
    (s.setHostContext c).apertures = s.apertures := rfl
@[simp] theorem State.setHostContext_marks (s : State) (c : HostContext) :
    (s.setHostContext c).marks = s.marks := rfl
@[simp] theorem State.setHostContext_bindings (s : State) (c : HostContext) :
    (s.setHostContext c).bindings = s.bindings := rfl
@[simp] theorem State.setHostContext_contexts (s : State) (c : HostContext) :
    (s.setHostContext c).contexts = s.contexts := rfl
@[simp] theorem State.setHostContext_ports (s : State) (c : HostContext) :
    (s.setHostContext c).ports = s.ports := rfl
@[simp] theorem State.setHostContext_command (s : State) (c : HostContext) :
    (s.setHostContext c).command = s.command := rfl
@[simp] theorem State.setHostContext_retire (s : State) (c : HostContext) :
    (s.setHostContext c).retire = s.retire := rfl
@[simp] theorem State.setHostContext_faults (s : State) (c : HostContext) :
    (s.setHostContext c).faults = s.faults := rfl
@[simp] theorem State.setHostContext_interrupts (s : State) (c : HostContext) :
    (s.setHostContext c).interrupts = s.interrupts := rfl
@[simp] theorem State.setHostContext_window (s : State) (c : HostContext) :
    (s.setHostContext c).window = s.window := rfl
@[simp] theorem State.setHostContext_bus (s : State) (c : HostContext) :
    (s.setHostContext c).bus = s.bus := rfl
@[simp] theorem State.setHostContext_pending (s : State) (c : HostContext) :
    (s.setHostContext c).pending = s.pending := rfl

/-! ### endGrant -/

@[simp] theorem State.endGrant_inReset (s : State) :
    (s.endGrant).inReset = s.inReset := rfl
@[simp] theorem State.endGrant_powerOns (s : State) :
    (s.endGrant).powerOns = s.powerOns := rfl
@[simp] theorem State.endGrant_freeCount (s : State) :
    (s.endGrant).freeCount = s.freeCount := rfl
@[simp] theorem State.endGrant_store (s : State) :
    (s.endGrant).store = s.store := rfl
@[simp] theorem State.endGrant_apertures (s : State) :
    (s.endGrant).apertures = s.apertures := rfl
@[simp] theorem State.endGrant_marks (s : State) :
    (s.endGrant).marks = s.marks := rfl
@[simp] theorem State.endGrant_bindings (s : State) :
    (s.endGrant).bindings = s.bindings := rfl
@[simp] theorem State.endGrant_contexts (s : State) :
    (s.endGrant).contexts = s.contexts := rfl
@[simp] theorem State.endGrant_hostContext (s : State) :
    (s.endGrant).hostContext = s.hostContext := rfl
@[simp] theorem State.endGrant_ports (s : State) :
    (s.endGrant).ports = s.ports := rfl
@[simp] theorem State.endGrant_command (s : State) :
    (s.endGrant).command = s.command := rfl
@[simp] theorem State.endGrant_retire (s : State) :
    (s.endGrant).retire = s.retire := rfl
@[simp] theorem State.endGrant_faults (s : State) :
    (s.endGrant).faults = s.faults := rfl
@[simp] theorem State.endGrant_interrupts (s : State) :
    (s.endGrant).interrupts = s.interrupts := rfl
@[simp] theorem State.endGrant_window (s : State) :
    (s.endGrant).window = s.window := rfl
@[simp] theorem State.endGrant_bus (s : State) :
    (s.endGrant).bus = s.bus := rfl
@[simp] theorem State.endGrant_pending (s : State) :
    (s.endGrant).pending = s.pending := rfl

/-! ### The places after an update of something else -/

@[simp] theorem State.setPort_context (s : State) (p : Port) (x : PortState) (q : Port) (u : Stream) :
    (s.setPort p x).context q u = s.context q u := rfl
@[simp] theorem State.setPort_slot (s : State) (p : Port) (x : PortState) (q : Port) (u : Stream) :
    (s.setPort p x).slot q u = s.slot q u := rfl
@[simp] theorem State.setPort_aperture (s : State) (p : Port) (x : PortState) (m : ApIndex) :
    (s.setPort p x).aperture m = s.aperture m := rfl
@[simp] theorem State.setPort_request (s : State) (p : Port) (x : PortState) (q : Port) :
    (s.setPort p x).request q = s.request q := rfl
@[simp] theorem State.setPort_cell (s : State) (p : Port) (x : PortState) (i : BitVec 8) (j : BitVec 10) :
    (s.setPort p x).cell i j = s.cell i j := rfl
@[simp] theorem State.setContext_port (s : State) (p : Port) (t : Stream) (c : HeadContext) (q : Port) :
    (s.setContext p t c).port q = s.port q := rfl
@[simp] theorem State.setContext_slot (s : State) (p : Port) (t : Stream) (c : HeadContext) (q : Port) (u : Stream) :
    (s.setContext p t c).slot q u = s.slot q u := rfl
@[simp] theorem State.setContext_aperture (s : State) (p : Port) (t : Stream) (c : HeadContext) (m : ApIndex) :
    (s.setContext p t c).aperture m = s.aperture m := rfl
@[simp] theorem State.setContext_request (s : State) (p : Port) (t : Stream) (c : HeadContext) (q : Port) :
    (s.setContext p t c).request q = s.request q := rfl
@[simp] theorem State.setContext_cell (s : State) (p : Port) (t : Stream) (c : HeadContext) (i : BitVec 8) (j : BitVec 10) :
    (s.setContext p t c).cell i j = s.cell i j := rfl
@[simp] theorem State.setSlot_port (s : State) (p : Port) (t : Stream) (b : Option Binding) (q : Port) :
    (s.setSlot p t b).port q = s.port q := rfl
@[simp] theorem State.setSlot_context (s : State) (p : Port) (t : Stream) (b : Option Binding) (q : Port) (u : Stream) :
    (s.setSlot p t b).context q u = s.context q u := rfl
@[simp] theorem State.setSlot_aperture (s : State) (p : Port) (t : Stream) (b : Option Binding) (m : ApIndex) :
    (s.setSlot p t b).aperture m = s.aperture m := rfl
@[simp] theorem State.setSlot_request (s : State) (p : Port) (t : Stream) (b : Option Binding) (q : Port) :
    (s.setSlot p t b).request q = s.request q := rfl
@[simp] theorem State.setSlot_cell (s : State) (p : Port) (t : Stream) (b : Option Binding) (i : BitVec 8) (j : BitVec 10) :
    (s.setSlot p t b).cell i j = s.cell i j := rfl
@[simp] theorem State.setAperture_port (s : State) (n : ApIndex) (a : Aperture) (q : Port) :
    (s.setAperture n a).port q = s.port q := rfl
@[simp] theorem State.setAperture_context (s : State) (n : ApIndex) (a : Aperture) (q : Port) (u : Stream) :
    (s.setAperture n a).context q u = s.context q u := rfl
@[simp] theorem State.setAperture_slot (s : State) (n : ApIndex) (a : Aperture) (q : Port) (u : Stream) :
    (s.setAperture n a).slot q u = s.slot q u := rfl
@[simp] theorem State.setAperture_request (s : State) (n : ApIndex) (a : Aperture) (q : Port) :
    (s.setAperture n a).request q = s.request q := rfl
@[simp] theorem State.setAperture_cell (s : State) (n : ApIndex) (a : Aperture) (i : BitVec 8) (j : BitVec 10) :
    (s.setAperture n a).cell i j = s.cell i j := rfl
@[simp] theorem State.setRequest_port (s : State) (p : Port) (r : Option Request) (q : Port) :
    (s.setRequest p r).port q = s.port q := rfl
@[simp] theorem State.setRequest_context (s : State) (p : Port) (r : Option Request) (q : Port) (u : Stream) :
    (s.setRequest p r).context q u = s.context q u := rfl
@[simp] theorem State.setRequest_slot (s : State) (p : Port) (r : Option Request) (q : Port) (u : Stream) :
    (s.setRequest p r).slot q u = s.slot q u := rfl
@[simp] theorem State.setRequest_aperture (s : State) (p : Port) (r : Option Request) (m : ApIndex) :
    (s.setRequest p r).aperture m = s.aperture m := rfl
@[simp] theorem State.setRequest_cell (s : State) (p : Port) (r : Option Request) (i : BitVec 8) (j : BitVec 10) :
    (s.setRequest p r).cell i j = s.cell i j := rfl
@[simp] theorem State.writeCell_port (s : State) (row : BitVec 8) (column : BitVec 10) (v : Word) (q : Port) :
    (s.writeCell row column v).port q = s.port q := rfl
@[simp] theorem State.writeCell_context (s : State) (row : BitVec 8) (column : BitVec 10) (v : Word) (q : Port) (u : Stream) :
    (s.writeCell row column v).context q u = s.context q u := rfl
@[simp] theorem State.writeCell_slot (s : State) (row : BitVec 8) (column : BitVec 10) (v : Word) (q : Port) (u : Stream) :
    (s.writeCell row column v).slot q u = s.slot q u := rfl
@[simp] theorem State.writeCell_aperture (s : State) (row : BitVec 8) (column : BitVec 10) (v : Word) (m : ApIndex) :
    (s.writeCell row column v).aperture m = s.aperture m := rfl
@[simp] theorem State.writeCell_request (s : State) (row : BitVec 8) (column : BitVec 10) (v : Word) (q : Port) :
    (s.writeCell row column v).request q = s.request q := rfl
@[simp] theorem State.setReportFlag_context (s : State) (p : Port) (k : FaultKind) (q : Port) (u : Stream) :
    (s.setReportFlag p k).context q u = s.context q u := rfl
@[simp] theorem State.setReportFlag_slot (s : State) (p : Port) (k : FaultKind) (q : Port) (u : Stream) :
    (s.setReportFlag p k).slot q u = s.slot q u := rfl
@[simp] theorem State.setReportFlag_aperture (s : State) (p : Port) (k : FaultKind) (m : ApIndex) :
    (s.setReportFlag p k).aperture m = s.aperture m := rfl
@[simp] theorem State.setReportFlag_request (s : State) (p : Port) (k : FaultKind) (q : Port) :
    (s.setReportFlag p k).request q = s.request q := rfl
@[simp] theorem State.setReportFlag_cell (s : State) (p : Port) (k : FaultKind) (i : BitVec 8) (j : BitVec 10) :
    (s.setReportFlag p k).cell i j = s.cell i j := rfl
@[simp] theorem State.countAck_context (s : State) (p : Port) (q : Port) (u : Stream) :
    (s.countAck p).context q u = s.context q u := rfl
@[simp] theorem State.countAck_slot (s : State) (p : Port) (q : Port) (u : Stream) :
    (s.countAck p).slot q u = s.slot q u := rfl
@[simp] theorem State.countAck_aperture (s : State) (p : Port) (m : ApIndex) :
    (s.countAck p).aperture m = s.aperture m := rfl
@[simp] theorem State.countAck_request (s : State) (p : Port) (q : Port) :
    (s.countAck p).request q = s.request q := rfl
@[simp] theorem State.countAck_cell (s : State) (p : Port) (i : BitVec 8) (j : BitVec 10) :
    (s.countAck p).cell i j = s.cell i j := rfl
@[simp] theorem State.countClaim_port (s : State) (source : Source) (q : Port) :
    (s.countClaim source).port q = s.port q := rfl
@[simp] theorem State.countClaim_context (s : State) (source : Source) (q : Port) (u : Stream) :
    (s.countClaim source).context q u = s.context q u := rfl
@[simp] theorem State.countClaim_slot (s : State) (source : Source) (q : Port) (u : Stream) :
    (s.countClaim source).slot q u = s.slot q u := rfl
@[simp] theorem State.countClaim_aperture (s : State) (source : Source) (m : ApIndex) :
    (s.countClaim source).aperture m = s.aperture m := rfl
@[simp] theorem State.countClaim_request (s : State) (source : Source) (q : Port) :
    (s.countClaim source).request q = s.request q := rfl
@[simp] theorem State.countClaim_cell (s : State) (source : Source) (i : BitVec 8) (j : BitVec 10) :
    (s.countClaim source).cell i j = s.cell i j := rfl
@[simp] theorem State.setAlert_port (s : State) (q : Port) :
    (s.setAlert).port q = s.port q := rfl
@[simp] theorem State.setAlert_context (s : State) (q : Port) (u : Stream) :
    (s.setAlert).context q u = s.context q u := rfl
@[simp] theorem State.setAlert_slot (s : State) (q : Port) (u : Stream) :
    (s.setAlert).slot q u = s.slot q u := rfl
@[simp] theorem State.setAlert_aperture (s : State) (m : ApIndex) :
    (s.setAlert).aperture m = s.aperture m := rfl
@[simp] theorem State.setAlert_request (s : State) (q : Port) :
    (s.setAlert).request q = s.request q := rfl
@[simp] theorem State.setAlert_cell (s : State) (i : BitVec 8) (j : BitVec 10) :
    (s.setAlert).cell i j = s.cell i j := rfl
@[simp] theorem State.setSuspendLatch_port (s : State) (p : Port) (q : Port) :
    (s.setSuspendLatch p).port q = s.port q := rfl
@[simp] theorem State.setSuspendLatch_context (s : State) (p : Port) (q : Port) (u : Stream) :
    (s.setSuspendLatch p).context q u = s.context q u := rfl
@[simp] theorem State.setSuspendLatch_slot (s : State) (p : Port) (q : Port) (u : Stream) :
    (s.setSuspendLatch p).slot q u = s.slot q u := rfl
@[simp] theorem State.setSuspendLatch_aperture (s : State) (p : Port) (m : ApIndex) :
    (s.setSuspendLatch p).aperture m = s.aperture m := rfl
@[simp] theorem State.setSuspendLatch_request (s : State) (p : Port) (q : Port) :
    (s.setSuspendLatch p).request q = s.request q := rfl
@[simp] theorem State.setSuspendLatch_cell (s : State) (p : Port) (i : BitVec 8) (j : BitVec 10) :
    (s.setSuspendLatch p).cell i j = s.cell i j := rfl
@[simp] theorem State.completeWith_port (s : State) (code : ResultCode) (d0 d1 d2 : Nat) (q : Port) :
    (s.completeWith code d0 d1 d2).port q = s.port q := rfl
@[simp] theorem State.completeWith_context (s : State) (code : ResultCode) (d0 d1 d2 : Nat) (q : Port) (u : Stream) :
    (s.completeWith code d0 d1 d2).context q u = s.context q u := rfl
@[simp] theorem State.completeWith_slot (s : State) (code : ResultCode) (d0 d1 d2 : Nat) (q : Port) (u : Stream) :
    (s.completeWith code d0 d1 d2).slot q u = s.slot q u := rfl
@[simp] theorem State.completeWith_aperture (s : State) (code : ResultCode) (d0 d1 d2 : Nat) (m : ApIndex) :
    (s.completeWith code d0 d1 d2).aperture m = s.aperture m := rfl
@[simp] theorem State.completeWith_request (s : State) (code : ResultCode) (d0 d1 d2 : Nat) (q : Port) :
    (s.completeWith code d0 d1 d2).request q = s.request q := rfl
@[simp] theorem State.completeWith_cell (s : State) (code : ResultCode) (d0 d1 d2 : Nat) (i : BitVec 8) (j : BitVec 10) :
    (s.completeWith code d0 d1 d2).cell i j = s.cell i j := rfl
@[simp] theorem State.completeRetire_port (s : State) (code : ResultCode) (q : Port) :
    (s.completeRetire code).port q = s.port q := rfl
@[simp] theorem State.completeRetire_context (s : State) (code : ResultCode) (q : Port) (u : Stream) :
    (s.completeRetire code).context q u = s.context q u := rfl
@[simp] theorem State.completeRetire_slot (s : State) (code : ResultCode) (q : Port) (u : Stream) :
    (s.completeRetire code).slot q u = s.slot q u := rfl
@[simp] theorem State.completeRetire_aperture (s : State) (code : ResultCode) (m : ApIndex) :
    (s.completeRetire code).aperture m = s.aperture m := rfl
@[simp] theorem State.completeRetire_request (s : State) (code : ResultCode) (q : Port) :
    (s.completeRetire code).request q = s.request q := rfl
@[simp] theorem State.completeRetire_cell (s : State) (code : ResultCode) (i : BitVec 8) (j : BitVec 10) :
    (s.completeRetire code).cell i j = s.cell i j := rfl
@[simp] theorem State.endWalk_port (s : State) (p : Port) (t : Stream) (q : Port) :
    (s.endWalk p t).port q = s.port q := rfl
@[simp] theorem State.endWalk_context (s : State) (p : Port) (t : Stream) (q : Port) (u : Stream) :
    (s.endWalk p t).context q u = s.context q u := rfl
@[simp] theorem State.endWalk_slot (s : State) (p : Port) (t : Stream) (q : Port) (u : Stream) :
    (s.endWalk p t).slot q u = s.slot q u := rfl
@[simp] theorem State.endWalk_aperture (s : State) (p : Port) (t : Stream) (m : ApIndex) :
    (s.endWalk p t).aperture m = s.aperture m := rfl
@[simp] theorem State.endWalk_cell (s : State) (p : Port) (t : Stream) (i : BitVec 8) (j : BitVec 10) :
    (s.endWalk p t).cell i j = s.cell i j := rfl
@[simp] theorem State.dropRequestValue_port (s : State) (p : Port) (q : Port) :
    (s.dropRequestValue p).port q = s.port q := rfl
@[simp] theorem State.dropRequestValue_context (s : State) (p : Port) (q : Port) (u : Stream) :
    (s.dropRequestValue p).context q u = s.context q u := rfl
@[simp] theorem State.dropRequestValue_slot (s : State) (p : Port) (q : Port) (u : Stream) :
    (s.dropRequestValue p).slot q u = s.slot q u := rfl
@[simp] theorem State.dropRequestValue_aperture (s : State) (p : Port) (m : ApIndex) :
    (s.dropRequestValue p).aperture m = s.aperture m := rfl
@[simp] theorem State.dropRequestValue_cell (s : State) (p : Port) (i : BitVec 8) (j : BitVec 10) :
    (s.dropRequestValue p).cell i j = s.cell i j := rfl

/-! ### The places after an update of themselves -/

@[simp] theorem State.setPort_port_self (s : State) (p : Port) (x : PortState) : (s.setPort p x).port p = x := by
  simp [State.setPort, State.port]

theorem State.setPort_port (s : State) (p q : Port) (x : PortState) :
    (s.setPort p x).port q = if p = q then x else s.port q := Bank.get_set _ _ _ _

theorem State.setContext_context (s : State) (p q : Port) (t u : Stream) (c : HeadContext) :
    (s.setContext p t c).context q u = if p = q ∧ t = u then c else s.context q u := by
  simp only [State.setContext, State.context, Bank.get_set]
  by_cases h : p = q
  · subst h; simp [Bank.get_set]
  · simp [h]

@[simp] theorem State.setContext_context_self (s : State) (p : Port) (t : Stream) (c : HeadContext) :
    (s.setContext p t c).context p t = c := by simp [State.setContext_context]

theorem State.setSlot_slot (s : State) (p q : Port) (t u : Stream) (b : Option Binding) :
    (s.setSlot p t b).slot q u = if p = q ∧ t = u then b else s.slot q u := by
  simp only [State.setSlot, State.slot, Bank.get_set]
  by_cases h : p = q
  · subst h; simp [Bank.get_set]
  · simp [h]

theorem State.setAperture_aperture (s : State) (n m : ApIndex) (a : Aperture) :
    (s.setAperture n a).aperture m = if n = m then a else s.aperture m := Bank.get_set _ _ _ _

theorem State.setRequest_request (s : State) (p q : Port) (r : Option Request) :
    (s.setRequest p r).request q = if p = q then r else s.request q := Bank.get_set _ _ _ _

@[simp] theorem State.setPort_setPort (s : State) (p : Port) (x y : PortState) :
    (s.setPort p x).setPort p y = s.setPort p y := by simp [State.setPort]

@[simp] theorem State.setPort_port_id (s : State) (p : Port) : s.setPort p (s.port p) = s := by
  simp [State.setPort, State.port]

/-- R45: with no WRITE being received the decoder has nothing to skip. -/
theorem State.skipReceiving_of_none {s : State} {p : Port} (h : ∀ i ∈ (s.port p).queue, i.isReceiving = false) :
    s.skipReceiving p = s := by
  rw [State.skipReceiving, if_neg]
  simpa using h

end Sys2Proof.Machine
end

