-- ==== Sys2Proof/Laws/Frames.lean ====
section
/-! SUPPORT. The frame of the link and engine events: each of these operations leaves the reset input, the band store,
the aperture table, the binding map, the window selections, the host bus and the queue of commands as they were. -/

namespace Sys2Proof.Machine

/-- The part of the state that no link or engine event changes. -/
structure Kept where
  inReset : Bool
  powerOns : Nat
  store : List (Nat × Word)
  apertures : Bank 32 Aperture
  bindings : Bank 4 (Bank 4 (Option Binding))
  window : Window
  bus : HostBus
  pending : List Instr

/-- That part of a state. -/
def State.kept (s : State) : Kept where
  inReset := s.inReset
  powerOns := s.powerOns
  store := s.store
  apertures := s.apertures
  bindings := s.bindings
  window := s.window
  bus := s.bus
  pending := s.pending

theorem foldl_kept {α : Type} {f : State → α → State} (h : ∀ s a, (f s a).kept = s.kept) (l : List α) (s : State) :
    (l.foldl f s).kept = s.kept := by
  induction l generalizing s with
  | nil => rfl
  | cons a l ih => rw [List.foldl_cons, ih, h]

/-! ### Ops -/

@[simp] theorem State.setPort_kept (s : State) (p : Port) (x : PortState) : (s.setPort p x).kept = s.kept := rfl
@[simp] theorem State.setContext_kept (s : State) (p : Port) (t : Stream) (c : HeadContext) : (s.setContext p t c).kept = s.kept := rfl
@[simp] theorem State.setRequest_kept (s : State) (p : Port) (r : Option Request) : (s.setRequest p r).kept = s.kept := rfl
@[simp] theorem State.setHostContext_kept (s : State) (c : HostContext) : (s.setHostContext c).kept = s.kept := rfl
@[simp] theorem State.endGrant_kept (s : State) : (s.endGrant).kept = s.kept := rfl
@[simp] theorem State.unitEnded_kept (s : State) (p : Port) (t : Stream) (how : UnitEnd) : (s.unitEnded p t how).kept = s.kept := by
  unfold State.unitEnded
  split <;> rfl
@[simp] theorem State.unitsEnded_kept (s : State) (p : Port) (items : List WorkItem) (how : UnitEnd) : (s.unitsEnded p items how).kept = s.kept := by
  unfold State.unitsEnded
  exact foldl_kept (fun s i => s.unitEnded_kept p i.stream how) items s
@[simp] theorem State.countClaim_kept (s : State) (q : Source) : (s.countClaim q).kept = s.kept := rfl
@[simp] theorem State.offerClaim_kept (s : State) (c : Claim) : (s.offerClaim c).kept = s.kept := by
  unfold State.offerClaim
  (repeat' split) <;> rfl
@[simp] theorem State.setAlert_kept (s : State) : (s.setAlert).kept = s.kept := rfl
@[simp] theorem State.takeClaim_kept (s : State) (c : Claim) : (s.takeClaim c).kept = s.kept := by
  unfold State.takeClaim
  split <;> simp
@[simp] theorem State.setReportFlag_kept (s : State) (p : Port) (k : FaultKind) : (s.setReportFlag p k).kept = s.kept := rfl
@[simp] theorem State.removeReceiving_kept (s : State) (p : Port) (how : UnitEnd) : (s.removeReceiving p how).kept = s.kept := by
  simp [State.removeReceiving]
@[simp] theorem State.skipReceiving_kept (s : State) (p : Port) : (s.skipReceiving p).kept = s.kept := by
  unfold State.skipReceiving
  split <;> rfl
@[simp] theorem State.setSuspendLatch_kept (s : State) (p : Port) : (s.setSuspendLatch p).kept = s.kept := rfl
@[simp] theorem State.dropReceiving_kept (s : State) (p : Port) : (s.dropReceiving p).kept = s.kept := by
  simp [State.dropReceiving]
@[simp] theorem State.enterSuspended_kept (s : State) (p : Port) : (s.enterSuspended p).kept = s.kept := by
  simp [State.enterSuspended]
@[simp] theorem State.raiseSuspended_kept (s : State) (p : Port) : (s.raiseSuspended p).kept = s.kept := by
  simp [State.raiseSuspended]
@[simp] theorem State.classTwoAction_kept (s : State) (c : Claim) : (s.classTwoAction c).kept = s.kept := by
  unfold State.classTwoAction
  (repeat' split) <;> simp
@[simp] theorem State.flagClaim_kept (s : State) (c : Claim) : (s.flagClaim c).kept = s.kept := by
  unfold State.flagClaim
  split <;> rfl
@[simp] theorem State.raise_kept (s : State) (c : Claim) : (s.raise c).kept = s.kept := by
  simp [State.raise]
@[simp] theorem State.raiseAll_kept (s : State) (cs : List Claim) : (s.raiseAll cs).kept = s.kept :=
  foldl_kept State.raise_kept cs s
@[simp] theorem State.suspendByCommand_kept (s : State) (p : Port) : (s.suspendByCommand p).kept = s.kept := by
  unfold State.suspendByCommand
  split <;> simp
@[simp] theorem State.removeItems_kept (s : State) (p : Port) (chosen told : WorkItem → Bool) : (s.removeItems p chosen told).kept = s.kept := by
  simp [State.removeItems]
@[simp] theorem State.dropRequestValue_kept (s : State) (p : Port) : (s.dropRequestValue p).kept = s.kept := rfl
@[simp] theorem State.cutResponse_kept (s : State) (p : Port) : (s.cutResponse p).kept = s.kept := by
  unfold State.cutResponse
  (repeat' split) <;> simp
@[simp] theorem State.completeWith_kept (s : State) (code : ResultCode) (d0 d1 d2 : Nat) : (s.completeWith code d0 d1 d2).kept = s.kept := rfl
@[simp] theorem State.complete_kept (s : State) (code : ResultCode) : (s.complete code).kept = s.kept := rfl
@[simp] theorem State.completeRetire_kept (s : State) (code : ResultCode) : (s.completeRetire code).kept = s.kept := rfl
@[simp] theorem State.retireIfDrained_kept (s : State) (h : Port × Stream) : (s.retireIfDrained h).kept = s.kept := by
  unfold State.retireIfDrained
  split <;> rfl
@[simp] theorem State.settleDrain_kept (s : State) : (s.settleDrain).kept = s.kept := by
  unfold State.settleDrain
  have h := foldl_kept State.retireIfDrained_kept allHeads s
  split
  · rfl
  · dsimp only; split <;> simp [h]
@[simp] theorem State.advanceFor_kept (s : State) (p : Port) (r : Request) : (s.advanceFor p r).kept = s.kept := by
  unfold State.advanceFor
  (repeat' split) <;> rfl
@[simp] theorem State.markFor_kept (s : State) (r : Request) : (s.markFor r).kept = s.kept := by
  unfold State.markFor
  split <;> rfl
@[simp] theorem State.endWalk_kept (s : State) (p : Port) (t : Stream) : (s.endWalk p t).kept = s.kept := rfl
@[simp] theorem State.countAck_kept (s : State) (p : Port) : (s.countAck p).kept = s.kept := rfl
@[simp] theorem State.finishHead_kept (s : State) (p : Port) : (s.finishHead p).kept = s.kept := by
  unfold State.finishHead
  split <;> simp
@[simp] theorem State.continueCommit_kept (s : State) (p : Port) : (s.continueCommit p).kept = s.kept := by
  unfold State.continueCommit
  (repeat' split) <;> simp
@[simp] theorem State.continueReturn_kept (s : State) (p : Port) : (s.continueReturn p).kept = s.kept := by
  unfold State.continueReturn
  (repeat' split) <;> rfl
/-! ### Port -/

@[simp] theorem State.enablePort_kept (s : State) (p : Port) : (s.enablePort p).kept = s.kept := rfl
@[simp] theorem State.disablePort_kept (s : State) (p : Port) : (s.disablePort p).kept = s.kept := by
  simp [State.disablePort]
@[simp] theorem State.writeEnable_kept (s : State) (p : Port) (written : Bool) : (s.writeEnable p written).kept = s.kept := by
  unfold State.writeEnable
  split <;> simp
@[simp] theorem State.writeEnables_kept (s : State) (v : Word) : (s.writeEnables v).kept = s.kept :=
  foldl_kept (fun s p => s.writeEnable_kept p _) allPorts s
@[simp] theorem State.setLineLatch_kept (s : State) (p : Port) : (s.setLineLatch p).kept = s.kept := rfl
@[simp] theorem State.takeLineUp_kept (s : State) (p : Port) : (s.takeLineUp p).kept = s.kept := by
  unfold State.takeLineUp
  split <;> rfl
@[simp] theorem State.loseLine_kept (s : State) (p : Port) : (s.loseLine p).kept = s.kept := by
  simp [State.loseLine]
@[simp] theorem State.takeLineDown_kept (s : State) (p : Port) : (s.takeLineDown p).kept = s.kept := by
  unfold State.takeLineDown
  split <;> simp
@[simp] theorem State.clearPort_kept (s : State) (p : Port) : (s.clearPort p).kept = s.kept := rfl
@[simp] theorem State.resetOnePort_kept (s : State) (p : Port) : (s.resetOnePort p).kept = s.kept := by
  unfold State.resetOnePort
  split <;> simp
/-! ### Decoder -/

@[simp] theorem State.setPosition_kept (s : State) (p : Port) (x : Position) : (s.setPosition p x).kept = s.kept := rfl
@[simp] theorem State.openBurst_kept (s : State) (p : Port) : (s.openBurst p).kept = s.kept := rfl
@[simp] theorem State.dropBurst_kept (s : State) (p : Port) : (s.dropBurst p).kept = s.kept := rfl
@[simp] theorem State.handTurn_kept (s : State) (p : Port) : (s.handTurn p).kept = s.kept := rfl
@[simp] theorem State.closeBurst_kept (s : State) (p : Port) : (s.closeBurst p).kept = s.kept := by
  unfold State.closeBurst
  (repeat' split) <;> simp
@[simp] theorem State.takeBurstStart_kept (s : State) (p : Port) : (s.takeBurstStart p).kept = s.kept := by
  unfold State.takeBurstStart
  dsimp only
  (repeat' split) <;> first | rfl | simp
@[simp] theorem State.takeBurstEnd_kept (s : State) (p : Port) : (s.takeBurstEnd p).kept = s.kept := by
  unfold State.takeBurstEnd
  split <;> simp
@[simp] theorem State.takeCodeViolation_kept (s : State) (p : Port) : (s.takeCodeViolation p).kept = s.kept := by
  unfold State.takeCodeViolation
  (repeat' split) <;> simp
@[simp] theorem State.expireReceive_kept (s : State) (p : Port) : (s.expireReceive p).kept = s.kept := by
  unfold State.expireReceive
  split <;> simp
@[simp] theorem State.appendItem_kept (s : State) (p : Port) (kind : ItemKind) (d : HeaderBits) : (s.appendItem p kind d).kept = s.kept := rfl
@[simp] theorem State.offerPacket_kept (s : State) (p : Port) (kind : ItemKind) (d : HeaderBits) : (s.offerPacket p kind d).kept = s.kept := by
  unfold State.offerPacket
  split <;> simp
@[simp] theorem State.takeLimit_kept (s : State) (p : Port) (d : HeaderBits) : (s.takeLimit p d).kept = s.kept := by
  unfold State.takeLimit
  split <;> simp
@[simp] theorem State.seeTurn_kept (s : State) (p : Port) : (s.seeTurn p).kept = s.kept := rfl
@[simp] theorem State.deliverWrite_kept (s : State) (p : Port) (d : HeaderBits) : (s.deliverWrite p d).kept = s.kept := by
  unfold State.deliverWrite
  dsimp only
  split <;> simp
@[simp] theorem State.deliver_kept (s : State) (p : Port) (type : PacketType) (d : HeaderBits) : (s.deliver p type d).kept = s.kept := by
  unfold State.deliver
  split <;> simp
@[simp] theorem State.checkSequence_kept (s : State) (p : Port) (d : HeaderBits) : (s.checkSequence p d).kept = s.kept := by
  unfold State.checkSequence
  (repeat' split) <;> simp
@[simp] theorem State.acceptHeader_kept (s : State) (p : Port) (found : Mode) (turnSeen : Bool) (d : HeaderBits) : (s.acceptHeader p found turnSeen d).kept = s.kept := by
  unfold State.acceptHeader
  (repeat' split) <;> simp
@[simp] theorem State.takeHeader_kept (s : State) (p : Port) (turnSeen : Bool) (d : HeaderBits) (check : Byte) : (s.takeHeader p turnSeen d check).kept = s.kept := by
  unfold State.takeHeader
  split <;> simp
@[simp] theorem State.receiveCell_kept (s : State) (p : Port) (v : Word) : (s.receiveCell p v).kept = s.kept := by
  unfold State.receiveCell
  split <;> rfl
@[simp] theorem State.takePayloadByte_kept (s : State) (p : Port) (d : HeaderBits) (taken : Nat) (lastByte : Byte) (sum : Word) (b : Byte) : (s.takePayloadByte p d taken lastByte sum b).kept = s.kept := by
  unfold State.takePayloadByte
  split <;> simp
@[simp] theorem State.readyReceiving_kept (s : State) (p : Port) : (s.readyReceiving p).kept = s.kept := rfl
@[simp] theorem State.compareSum_kept (s : State) (p : Port) (d : HeaderBits) (sum received : Word) : (s.compareSum p d sum received).kept = s.kept := by
  unfold State.compareSum
  (repeat' split) <;> simp
@[simp] theorem State.takeByteIn_kept (s : State) (p : Port) (burst : Burst) (b : Byte) : (s.takeByteIn p burst b).kept = s.kept := by
  unfold State.takeByteIn
  split <;> simp
@[simp] theorem State.takeByte_kept (s : State) (p : Port) (b : Byte) : (s.takeByte p b).kept = s.kept := by
  unfold State.takeByte
  (repeat' split) <;> simp
/-! ### WorkQueue -/

@[simp] theorem State.raiseForItem_kept (s : State) (p : Port) (i : WorkItem) (kind : FaultKind) : (s.raiseForItem p i kind).kept = s.kept := by
  simp [State.raiseForItem]
@[simp] theorem State.loadContext_kept (s : State) (p : Port) (t : Stream) (b : Binding) : (s.loadContext p t b).kept = s.kept := rfl
@[simp] theorem State.startEffect_kept (s : State) (p : Port) (i : WorkItem) : (s.startEffect p i).kept = s.kept := by
  unfold State.startEffect
  (repeat' split) <;> simp
@[simp] theorem State.emptyContext_kept (s : State) (p : Port) (t : Stream) : (s.emptyContext p t).kept = s.kept := rfl
@[simp] theorem State.stopEffect_kept (s : State) (p : Port) (i : WorkItem) : (s.stopEffect p i).kept = s.kept := by
  unfold State.stopEffect
  (repeat' split) <;> simp
@[simp] theorem State.joinReturns_kept (s : State) (p : Port) (i : WorkItem) : (s.joinReturns p i).kept = s.kept := by
  unfold State.joinReturns
  (repeat' split) <;> simp
@[simp] theorem State.readEffect_kept (s : State) (p : Port) (i : WorkItem) : (s.readEffect p i).kept = s.kept := by
  unfold State.readEffect
  (repeat' split) <;> simp
@[simp] theorem State.beginCommit_kept (s : State) (p : Port) : (s.beginCommit p).kept = s.kept := by
  simp [State.beginCommit]
@[simp] theorem State.executeStart_kept (s : State) (p : Port) : (s.executeStart p).kept = s.kept := by
  unfold State.executeStart
  split <;> simp
@[simp] theorem State.executeStop_kept (s : State) (p : Port) : (s.executeStop p).kept = s.kept := by
  unfold State.executeStop
  split <;> simp
@[simp] theorem State.executeRead_kept (s : State) (p : Port) : (s.executeRead p).kept = s.kept := by
  unfold State.executeRead
  split <;> simp
@[simp] theorem State.executeWrite_kept (s : State) (p : Port) : (s.executeWrite p).kept = s.kept := by
  unfold State.executeWrite
  (repeat' split) <;> simp
/-! ### Response -/

@[simp] theorem State.endReturns_kept (s : State) (p : Port) : (s.endReturns p).kept = s.kept := rfl
@[simp] theorem State.endReturnsIfDone_kept (s : State) (p : Port) : (s.endReturnsIfDone p).kept = s.kept := by
  unfold State.endReturnsIfDone
  split <;> rfl
@[simp] theorem State.startResponse_kept (s : State) (p : Port) : (s.startResponse p).kept = s.kept := by
  unfold State.startResponse
  split <;> simp
@[simp] theorem State.beginReturn_kept (s : State) (p : Port) (t : Stream) (n : Nat) : (s.beginReturn p t n).kept = s.kept := by
  simp [State.beginReturn]
@[simp] theorem State.beginSized_kept (s : State) (p : Port) (t : Stream) (n : Nat) : (s.beginSized p t n).kept = s.kept := by
  unfold State.beginSized
  split <;> simp
@[simp] theorem State.serveEntry_kept (s : State) (p : Port) (e : ReturnEntry) : (s.serveEntry p e).kept = s.kept := by
  unfold State.serveEntry
  split <;> simp
@[simp] theorem State.takeEntry_kept (s : State) (p : Port) : (s.takeEntry p).kept = s.kept := by
  unfold State.takeEntry
  (repeat' split) <;> simp
@[simp] theorem State.endReturn_kept (s : State) (p : Port) : (s.endReturn p).kept = s.kept := by
  unfold State.endReturn
  (repeat' split) <;> simp
@[simp] theorem State.sendShort_kept (s : State) (p : Port) (type : Byte) (parameter : Word) : (s.sendShort p type parameter).kept = s.kept := rfl
@[simp] theorem State.sendReport_kept (s : State) (p : Port) : (s.sendReport p).kept = s.kept := by
  unfold State.sendReport
  (repeat' split) <;> rfl
@[simp] theorem State.sendAck_kept (s : State) (p : Port) : (s.sendAck p).kept = s.kept := by
  unfold State.sendAck
  (repeat' split) <;> rfl
@[simp] theorem State.sendEnd_kept (s : State) (p : Port) : (s.sendEnd p).kept = s.kept := by
  unfold State.sendEnd
  split <;> rfl
/-! ### Grants -/

@[simp] theorem State.chooseGrant_kept (s : State) : (s.chooseGrant).kept = s.kept := rfl
@[simp] theorem State.cellCommitted_kept (s : State) (p : Port) : (s.cellCommitted p).kept = s.kept := by
  unfold State.cellCommitted
  (repeat' split) <;> simp
@[simp] theorem State.placeCell_kept (s : State) (p : Port) (v : Word) : (s.placeCell p v).kept = s.kept := rfl
@[simp] theorem State.releasePort_kept (s : State) (p : Port) : (s.releasePort p).kept = s.kept := rfl
/-! ### Retire -/

@[simp] theorem State.removeEntries_kept (s : State) (heads : List (Port × Stream)) (p : Port) : (s.removeEntries heads p).kept = s.kept := rfl
@[simp] theorem State.startCounts_kept (s : State) (affected : List ContextId) : (s.startCounts affected).kept = s.kept := rfl
@[simp] theorem State.startRetiring_kept (s : State) (h : Port × Stream) : (s.startRetiring h).kept = s.kept := rfl
@[simp] theorem State.retireTake_kept (s : State) (x : Scope) : (s.retireTake x).kept = s.kept := by
  unfold State.retireTake
  dsimp only
  rw [State.raiseAll_kept, State.startCounts_kept, foldl_kept (fun s p => s.removeEntries_kept _ p),
    foldl_kept State.startRetiring_kept]
@[simp] theorem State.drawFree_kept (s : State) : (s.drawFree).kept = s.kept := rfl
@[simp] theorem State.zeroFillReturn_kept (s : State) (p : Port) (r : CurrentReturn) : (s.zeroFillReturn p r).kept = s.kept := by
  simp [State.zeroFillReturn]
@[simp] theorem State.abortContext_kept (s : State) (h : Port × Stream) : (s.abortContext h).kept = s.kept := by
  unfold State.abortContext
  split
  · dsimp only
    split
    · split <;> simp
    · rw [State.raise_kept, State.setContext_kept, State.zeroFillReturn_kept]
      split <;> simp
  · rfl
@[simp] theorem State.abortRetiring_kept (s : State) : (s.abortRetiring).kept = s.kept :=
  foldl_kept State.abortContext_kept allHeads s
@[simp] theorem State.beginDrain_kept (s : State) : (s.beginDrain).kept = s.kept := rfl
@[simp] theorem State.retireCommand_kept (s : State) : (s.retireCommand).kept = s.kept := by
  unfold State.retireCommand
  (repeat' split) <;> simp
@[simp] theorem State.expireDrain_kept (s : State) : (s.expireDrain).kept = s.kept := by
  unfold State.expireDrain
  split <;> simp
/-! ### Timebase -/

@[simp] theorem State.countDrain_kept (s : State) : (s.countDrain).kept = s.kept := rfl
@[simp] theorem State.countReceive_kept (s : State) (p : Port) : (s.countReceive p).kept = s.kept := rfl
@[simp] theorem State.tickReceive_kept (s : State) (p : Port) : (s.tickReceive p).kept = s.kept := by
  unfold State.tickReceive
  split <;> simp
@[simp] theorem State.tickDrain_kept (s : State) : (s.tickDrain).kept = s.kept := by
  unfold State.tickDrain
  split <;> simp

end Sys2Proof.Machine
end

