-- ==== Sys2Proof/Laws/Pending.lean ====
section
/-! SUPPORT. The queue of commands: no operation of the part touches it. -/

namespace Sys2Proof.Machine

theorem State.pending_eq (s : State) : s.pending = s.kept.pending := rfl

@[simp] theorem State.setSlot_keptPending (s : State) (p : Port) (t : Stream) (b : Option Binding) :
    (s.setSlot p t b).kept.pending = s.kept.pending := rfl
@[simp] theorem State.setAperture_keptPending (s : State) (n : ApIndex) (a : Aperture) :
    (s.setAperture n a).kept.pending = s.kept.pending := rfl
@[simp] theorem State.writeCell_keptPending (s : State) (row : BitVec 8) (column : BitVec 10) (v : Word) :
    (s.writeCell row column v).kept.pending = s.kept.pending := rfl
@[simp] theorem State.performPort_pending (s : State) (p : Port) :
    (s.performPort p).kept.pending = s.kept.pending := by
  unfold State.performPort
  (repeat' split) <;> simp
@[simp] theorem State.define_pending (s : State) (n : ApIndex) :
    (s.define n).kept.pending = s.kept.pending := rfl
@[simp] theorem State.defineCommand_pending (s : State) :
    (s.defineCommand).kept.pending = s.kept.pending := by
  unfold State.defineCommand
  split <;> rfl
@[simp] theorem State.clearCommand_pending (s : State) :
    (s.clearCommand).kept.pending = s.kept.pending := by
  unfold State.clearCommand
  (repeat' split) <;> rfl
@[simp] theorem State.bindCommand_pending (s : State) :
    (s.bindCommand).kept.pending = s.kept.pending := by
  unfold State.bindCommand
  (repeat' split) <;> rfl
@[simp] theorem State.unbindSlot_pending (s : State) (p : Port) (t : Stream) :
    (s.unbindSlot p t).kept.pending = s.kept.pending := rfl
@[simp] theorem State.unbindCommand_pending (s : State) :
    (s.unbindCommand).kept.pending = s.kept.pending := by
  unfold State.unbindCommand
  (repeat' split) <;> rfl
@[simp] theorem State.suspendCommand_pending (s : State) :
    (s.suspendCommand).kept.pending = s.kept.pending := by
  unfold State.suspendCommand
  split <;> simp
@[simp] theorem State.resumeCommand_pending (s : State) :
    (s.resumeCommand).kept.pending = s.kept.pending := by
  unfold State.resumeCommand
  (repeat' split) <;> rfl
@[simp] theorem State.resetPortCommand_pending (s : State) :
    (s.resetPortCommand).kept.pending = s.kept.pending := by
  unfold State.resetPortCommand
  split <;> simp
@[simp] theorem State.hostOpenCommand_pending (s : State) :
    (s.hostOpenCommand).kept.pending = s.kept.pending := by
  unfold State.hostOpenCommand
  (repeat' split) <;> rfl
@[simp] theorem State.hostCloseCommand_pending (s : State) :
    (s.hostCloseCommand).kept.pending = s.kept.pending := rfl
@[simp] theorem State.takeCommand_pending (s : State) (v : Word) :
    (s.takeCommand v).kept.pending = s.kept.pending := rfl
@[simp] theorem State.runCommand_pending (s : State) (c : Option Command) :
    (s.runCommand c).kept.pending = s.kept.pending := by
  unfold State.runCommand
  split <;> simp
@[simp] theorem State.noteCollision_pending (s : State) :
    (s.noteCollision).kept.pending = s.kept.pending := rfl
@[simp] theorem State.writeCmd_pending (s : State) (v : Word) :
    (s.writeCmd v).kept.pending = s.kept.pending := by
  unfold State.writeCmd
  split <;> simp
@[simp] theorem State.softResetBlocks_pending (s : State) :
    (s.softResetBlocks).kept.pending = s.kept.pending := rfl
@[simp] theorem State.finishGrant_pending (s : State) :
    (s.finishGrant).kept.pending = s.kept.pending := by
  unfold State.finishGrant
  split <;> simp
@[simp] theorem State.softResetAll_pending (s : State) :
    (s.softResetAll).kept.pending = s.kept.pending := by
  simp [State.softResetAll]
@[simp] theorem State.postHost_pending (s : State) (access : Access) (wanted : Bool) :
    (s.postHost access wanted).kept.pending = s.kept.pending := by
  unfold State.postHost
  split <;> rfl
@[simp] theorem State.hostWrite_pending (s : State) (v : Word) :
    (s.hostWrite v).kept.pending = s.kept.pending := by
  unfold State.hostWrite
  split <;> simp
@[simp] theorem State.drive_pending (s : State) (v : Word) :
    (s.drive v).kept.pending = s.kept.pending := rfl
@[simp] theorem State.hostRead_pending (s : State) (released : Bool) :
    (s.hostRead released).kept.pending = s.kept.pending := by
  unfold State.hostRead
  split <;> simp
@[simp] theorem State.releaseHost_pending (s : State) :
    (s.releaseHost).kept.pending = s.kept.pending := rfl
@[simp] theorem State.advanceHost_pending (s : State) :
    (s.advanceHost).kept.pending = s.kept.pending := by
  unfold State.advanceHost
  split <;> rfl
@[simp] theorem State.performHostAccess_pending (s : State) (r : Request) :
    (s.performHostAccess r).kept.pending = s.kept.pending := by
  unfold State.performHostAccess
  (repeat' split) <;> simp
@[simp] theorem State.readCounter_pending (s : State) (q : Source) :
    (s.readCounter q).kept.pending = s.kept.pending := rfl
@[simp] theorem State.readCtxCursorLo_pending (s : State) :
    (s.readCtxCursorLo).kept.pending = s.kept.pending := rfl
@[simp] theorem State.readHostCursorLo_pending (s : State) :
    (s.readHostCursorLo).kept.pending = s.kept.pending := rfl
@[simp] theorem State.readCycle_pending (s : State) (r : Register) (released : Bool) :
    (s.readCycle r released).kept.pending = s.kept.pending := by
  unfold State.readCycle
  (repeat' split) <;> simp
@[simp] theorem State.writeControl_pending (s : State) (v : Word) :
    (s.writeControl v).kept.pending = s.kept.pending := by
  unfold State.writeControl
  split <;> simp
@[simp] theorem State.writeArg_pending (s : State) (i : Fin 4) (v : Word) :
    (s.writeArg i v).kept.pending = s.kept.pending := rfl
@[simp] theorem State.writeDrainLimit_pending (s : State) (v : Word) :
    (s.writeDrainLimit v).kept.pending = s.kept.pending := rfl
@[simp] theorem State.writeRxLimit_pending (s : State) (p : Port) (v : Word) :
    (s.writeRxLimit p v).kept.pending = s.kept.pending := rfl
@[simp] theorem State.writeIntStatus_pending (s : State) (v : Word) :
    (s.writeIntStatus v).kept.pending = s.kept.pending := rfl
@[simp] theorem State.writeIntEnable_pending (s : State) (v : Word) :
    (s.writeIntEnable v).kept.pending = s.kept.pending := rfl
@[simp] theorem State.writeAlert_pending (s : State) (v : Word) :
    (s.writeAlert v).kept.pending = s.kept.pending := rfl
@[simp] theorem State.writeClassMap_pending (s : State) (hi : Bool) (v : Word) :
    (s.writeClassMap hi v).kept.pending = s.kept.pending := rfl
@[simp] theorem State.writeMarks_pending (s : State) (hi : Bool) (v : Word) :
    (s.writeMarks hi v).kept.pending = s.kept.pending := rfl
@[simp] theorem State.popFault_pending (s : State) :
    (s.popFault).kept.pending = s.kept.pending := rfl
@[simp] theorem State.writeCtxSelect_pending (s : State) (v : Word) :
    (s.writeCtxSelect v).kept.pending = s.kept.pending := by
  unfold State.writeCtxSelect
  split <;> rfl
@[simp] theorem State.writeApertureSelect_pending (s : State) (v : Word) :
    (s.writeApertureSelect v).kept.pending = s.kept.pending := rfl
@[simp] theorem State.writeReturnLimit_pending (s : State) (v : Word) :
    (s.writeReturnLimit v).kept.pending = s.kept.pending := rfl
@[simp] theorem State.writeCycle_pending (s : State) (r : Register) (v : Word) :
    (s.writeCycle r v).kept.pending = s.kept.pending := by
  unfold State.writeCycle
  split <;> simp
@[simp] theorem State.takeCycle_pending (s : State) (c : BusCycle) :
    (s.takeCycle c).kept.pending = s.kept.pending := by
  unfold State.takeCycle
  split <;> simp
@[simp] theorem State.hostCycle_pending (s : State) (c : BusCycle) :
    (s.hostCycle c).kept.pending = s.kept.pending := by
  unfold State.hostCycle
  (repeat' split) <;> first | rfl | simp
@[simp] theorem State.takeEndedCycle_pending (s : State) (c : BusCycle) :
    (s.takeEndedCycle c).kept.pending = s.kept.pending := s.takeCycle_pending c
@[simp] theorem State.takeHeldCycle_pending (s : State) (c : BusCycle) (behind : List BusCycle) :
    (s.takeHeldCycle c behind).kept.pending = s.kept.pending := by
  unfold State.takeHeldCycle
  split <;> simp
@[simp] theorem State.takeHeld_pending (s : State) (held : List BusCycle) :
    (s.takeHeld held).kept.pending = s.kept.pending := by
  induction held generalizing s with
  | nil => rfl
  | cons c rest ih =>
    unfold State.takeHeld
    dsimp only
    split
    · exact s.takeHeldCycle_pending c rest
    · rw [ih, State.takeHeldCycle_pending]
@[simp] theorem State.performHost_pending (s : State) :
    (s.performHost).kept.pending = s.kept.pending := by
  unfold State.performHost
  split <;> simp
@[simp] theorem State.performGrant_pending (s : State) :
    (s.performGrant).kept.pending = s.kept.pending := by
  unfold State.performGrant
  split <;> simp

end Sys2Proof.Machine
end

