-- ==== Sys2Proof/Laws/Store.lean ====
section
/-! SUPPORT. The band store: a cell reads what was last written to it, a write leaves every other cell alone, and every
write keeps the canonical form. -/

namespace Sys2Proof.Machine

theorem cellLookup_insert (m : List (Nat × Word)) (a b : Nat) (v : Word) :
    cellLookup (cellInsert m a v) b = if b = a then some v else cellLookup m b := by
  induction m with
  | nil => simp [cellInsert, cellLookup]
  | cons e rest ih =>
    obtain ⟨c, w⟩ := e
    simp only [cellInsert]
    split
    · simp [cellLookup]
    · split
      · next h => subst h; simp only [cellLookup]; split <;> rfl
      · next h1 h2 =>
        simp only [cellLookup, ih]
        by_cases h : b = c
        · subst h; simp [Ne.symm h2]
        · simp [h]

theorem cellLookup_none_of_lt {m : List (Nat × Word)} {a : Nat} (h : ∀ e ∈ m, a < e.1) : cellLookup m a = none := by
  induction m with
  | nil => rfl
  | cons e rest ih =>
    obtain ⟨c, w⟩ := e
    have hc : a < c := h (c, w) (by simp)
    simp only [cellLookup]
    rw [if_neg (by omega)]
    exact ih fun x hx => h x (by simp [hx])

theorem cellLookup_erase {m : List (Nat × Word)} (hm : m.Pairwise (fun a b => a.1 < b.1)) (a b : Nat) :
    cellLookup (cellErase m a) b = if b = a then none else cellLookup m b := by
  induction m with
  | nil => simp [cellErase, cellLookup]
  | cons e rest ih =>
    obtain ⟨c, w⟩ := e
    obtain ⟨h1, h2⟩ := List.pairwise_cons.mp hm
    simp only [cellErase]
    split
    · next h =>
      subst h
      by_cases hb : b = a
      · subst hb; simp [cellLookup_none_of_lt h1]
      · simp [cellLookup, hb]
    · next h =>
      simp only [cellLookup, ih h2]
      by_cases hb : b = c
      · subst hb; simp [Ne.symm h]
      · simp [hb]

theorem mem_cellInsert {m : List (Nat × Word)} {a : Nat} {v : Word} {e : Nat × Word} (h : e ∈ cellInsert m a v) :
    e = (a, v) ∨ e ∈ m := by
  induction m with
  | nil => simpa [cellInsert] using h
  | cons x rest ih =>
    obtain ⟨c, w⟩ := x
    simp only [cellInsert] at h
    split at h
    · simpa using h
    · split at h
      · simp only [List.mem_cons] at h ⊢; tauto
      · simp only [List.mem_cons] at h ⊢
        rcases h with h | h
        · tauto
        · rcases ih h with h | h <;> tauto

theorem mem_cellErase {m : List (Nat × Word)} {a : Nat} {e : Nat × Word} (h : e ∈ cellErase m a) : e ∈ m := by
  induction m with
  | nil => simp [cellErase] at h
  | cons x rest ih =>
    obtain ⟨c, w⟩ := x
    simp only [cellErase] at h
    split at h
    · simp [h]
    · simp only [List.mem_cons] at h ⊢
      exact h.imp id ih

theorem cellInsert_rising {m : List (Nat × Word)} (hm : m.Pairwise (fun a b => a.1 < b.1)) (a : Nat) (v : Word) :
    (cellInsert m a v).Pairwise (fun a b => a.1 < b.1) := by
  induction m with
  | nil => simp [cellInsert]
  | cons e rest ih =>
    obtain ⟨c, w⟩ := e
    obtain ⟨h1, h2⟩ := List.pairwise_cons.mp hm
    simp only [cellInsert]
    split
    · next h =>
      refine List.pairwise_cons.mpr ⟨fun x hx => ?_, hm⟩
      rcases List.mem_cons.mp hx with rfl | hx
      · exact h
      · exact Nat.lt_trans h (h1 x hx)
    · split
      · next h => subst h; exact List.pairwise_cons.mpr ⟨h1, h2⟩
      · refine List.pairwise_cons.mpr ⟨fun x hx => ?_, ih h2⟩
        rcases mem_cellInsert hx with rfl | hx
        · show c < a; omega
        · exact h1 x hx

theorem cellErase_rising {m : List (Nat × Word)} (hm : m.Pairwise (fun a b => a.1 < b.1)) (a : Nat) :
    (cellErase m a).Pairwise (fun a b => a.1 < b.1) := by
  induction m with
  | nil => simp [cellErase]
  | cons e rest ih =>
    obtain ⟨c, w⟩ := e
    obtain ⟨h1, h2⟩ := List.pairwise_cons.mp hm
    simp only [cellErase]
    split
    · exact h2
    · exact List.pairwise_cons.mpr ⟨fun x hx => h1 x (mem_cellErase hx), ih h2⟩

/-- What a write does to what the cells hold: the written cell holds the value, every other cell what it held. -/
theorem cellValue_cellWrite {n : Nat} {m : List (Nat × Word)} (hm : m.Pairwise (fun a b => a.1 < b.1)) (a b : Nat)
    (v : Word) : cellValue n (cellWrite n m a v) b = if b = a then v else cellValue n m b := by
  simp only [cellValue, cellWrite]
  split
  · next h =>
    rw [cellLookup_erase hm]
    split
    · next hb => subst hb; simpa using h.symm
    · rfl
  · rw [cellLookup_insert]
    split <;> rfl

/-- A write inside the store keeps the canonical form. -/
theorem cellWrite_wf {n : Nat} {m : List (Nat × Word)} (hm : Memory.wf n m) {a : Nat} (ha : a < 262144) (v : Word) :
    Memory.wf n (cellWrite n m a v) := by
  obtain ⟨h1, h2, h3⟩ := hm
  simp only [cellWrite]
  split
  · exact ⟨cellErase_rising h1 a, fun e he => h2 e (mem_cellErase he), fun e he => h3 e (mem_cellErase he)⟩
  · next hv =>
    refine ⟨cellInsert_rising h1 a v, fun e he => ?_, fun e he => ?_⟩
    · rcases mem_cellInsert he with rfl | he
      · exact hv
      · exact h2 e he
    · rcases mem_cellInsert he with rfl | he
      · exact ha
      · exact h3 e he

theorem cellAddress_lt (row : BitVec 8) (column : BitVec 10) : cellAddress row column < 262144 := by
  have h1 := row.isLt
  have h2 := column.isLt
  simp only [cellAddress]
  omega

/-- Two cells have the same address only where row and column agree. -/
theorem cellAddress_inj {r r' : BitVec 8} {c c' : BitVec 10} (h : cellAddress r c = cellAddress r' c') :
    r = r' ∧ c = c' := by
  have h1 := c.isLt
  have h2 := c'.isLt
  simp only [cellAddress] at h
  exact ⟨BitVec.eq_of_toNat_eq (by omega), BitVec.eq_of_toNat_eq (by omega)⟩

/-- R2: after a write grant the cell holds the value, and every other cell what it held. -/
theorem State.writeCell_cell {s : State} (hs : StoreCanonical s) (r r' : BitVec 8) (c c' : BitVec 10) (v : Word) :
    (s.writeCell r c v).cell r' c' = if r' = r ∧ c' = c then v else s.cell r' c' := by
  simp only [State.writeCell, State.cell, cellValue_cellWrite hs.1]
  by_cases h : r' = r ∧ c' = c
  · obtain ⟨rfl, rfl⟩ := h; simp
  · rw [if_neg h, if_neg fun e => h (cellAddress_inj e)]

/-- A write grant keeps the canonical form. -/
theorem State.writeCell_canonical {s : State} (hs : StoreCanonical s) (r : BitVec 8) (c : BitVec 10) (v : Word) :
    StoreCanonical (s.writeCell r c v) := cellWrite_wf hs (cellAddress_lt r c) v

end Sys2Proof.Machine
end

