-- ==== Sys2Proof/Laws/Events.lean ====
section
/-! SUPPORT. The event around a command: when the end-of-drain check changes nothing, and what a bus cycle is when it is
taken at once, held, or not taken. -/

namespace Sys2Proof.Machine

theorem mem_allHeads (p : Port) (t : Stream) : (p, t) ∈ allHeads := by
  revert p t; decide

theorem mem_allPorts (p : Port) : p ∈ allPorts := by
  revert p; decide

theorem State.anyRetiring_iff (s : State) :
    s.anyRetiring = true ↔ ∃ (p : Port) (t : Stream), (s.context p t).state = .retiring := by
  simp only [State.anyRetiring, List.any_eq_true, beq_iff_eq]
  constructor
  · rintro ⟨h, -, hs⟩; exact ⟨h.1, h.2, hs⟩
  · rintro ⟨p, t, hs⟩; exact ⟨(p, t), mem_allHeads p t, hs⟩

theorem foldl_id {α : Type} {f : State → α → State} {s : State} (l : List α) (h : ∀ a ∈ l, f s a = s) :
    l.foldl f s = s := by
  induction l with
  | nil => rfl
  | cons a l ih =>
    rw [List.foldl_cons, h a (by simp)]
    exact ih fun b hb => h b (by simp [hb])

/-- R144: outside a drain the end-of-drain check changes nothing. -/
theorem State.settleDrain_idle {s : State} (h : s.retire.phase = .idle) : s.settleDrain = s := by
  simp [State.settleDrain, h]

/-- R144: a state in which every RETIRING context of a drain still holds a unit is settled. -/
theorem State.settleDrain_settled {s : State} (h : DrainSettled s) : s.settleDrain = s := by
  unfold State.settleDrain
  split
  · rfl
  · next hp =>
    obtain ⟨h1, h2⟩ := h hp
    rw [foldl_id allHeads (f := State.retireIfDrained) fun a _ => ?_]
    · simp only [(State.anyRetiring_iff s).mpr h1, if_true]
    · unfold State.retireIfDrained
      rw [if_neg]
      exact fun hc => h2 _ _ hc.1 hc.2

/-- Being settled depends on the retire engine, the contexts and the in-flight counts alone. -/
theorem drainSettled_congr {s t : State} (h : DrainSettled s) (hr : t.retire.phase = s.retire.phase)
    (hc : ∀ p u, (t.context p u).state = .retiring ↔ (s.context p u).state = .retiring)
    (hi : ∀ p u, (s.context p u).state = .retiring → t.inFlight p u = s.inFlight p u) : DrainSettled t := by
  intro hp
  obtain ⟨⟨p, u, hx⟩, h2⟩ := h (hr ▸ hp)
  exact ⟨⟨p, u, (hc p u).mpr hx⟩, fun q w hq => by
    have := (hc q w).mp hq
    rw [hi q w this]
    exact h2 q w this⟩

/-- R144: an event that leaves the retire engine, the contexts and the in-flight counts of RETIRING contexts alone ends no
drain. -/
theorem State.settleDrain_of_kept {s t : State} (h : DrainSettled s) (h1 : t.retire = s.retire)
    (h2 : t.contexts = s.contexts)
    (hi : ∀ p u, (s.context p u).state = .retiring → t.inFlight p u = s.inFlight p u) : t.settleDrain = t :=
  State.settleDrain_settled (drainSettled_congr h (by rw [h1]) (fun p u => by simp [State.context, h2]) hi)

/-- R60: the delivery of a WRITE that leaves its port RUNNING is the arrival alone. -/
theorem State.deliverWrite_running {s : State} {p : Port} {d : HeaderBits}
    (h : ((s.offerPacket p .write d).port p).mode = .running) : s.deliverWrite p d = s.offerPacket p .write d := by
  simp [State.deliverWrite, h]

theorem operate_next {s : State} (h : s.inReset = false) (f : State → State) :
    operate s f = .next (f s).settleDrain := by simp [operate, h]

/-- R180: a bus cycle with nothing to wait for is taken at once. -/
theorem busCommand_next {s : State} (h : s.inReset = false) (hr : s.arbiter.hostRequest = none) (c : BusCycle) :
    busCommand s c = .next (s.takeCycle c) := by simp [busCommand, State.hostCycle, h, hr]

/-- R180: a bus cycle behind a HOST_DATA request is held. -/
theorem busCommand_held {s : State} (h : s.inReset = false) (hr : s.arbiter.hostRequest ≠ none) (c : BusCycle) :
    busCommand s c = .next { s with bus := { s.bus with held := s.bus.held ++ [c] } } := by
  simp [busCommand, State.hostCycle, h, Option.isSome_iff_ne_none, hr]

/-- R181: while RESET is asserted no bus cycle is taken. -/
theorem busCommand_inReset {s : State} (h : s.inReset = true) (c : BusCycle) : busCommand s c = .next s := by
  simp [busCommand, h]

/-- R181: while RESET is asserted no event is reported. -/
theorem operate_inReset {s : State} (h : s.inReset = true) (f : State → State) : operate s f = .next s := by
  simp [operate, h]

/-! ### What each command is -/

theorem exec_powerOnReset (asserted : Bool) (s : State) : exec (.powerOnReset asserted) s =
    .next (s.driveReset asserted) := rfl
theorem exec_softReset (v : Word) (s : State) : exec (.softReset v) s = busCommand s (.write .control v) := rfl
theorem exec_portEnable (v : Word) (s : State) : exec (.portEnable v) s = busCommand s (.write .control v) := rfl
theorem exec_portDisable (v : Word) (s : State) : exec (.portDisable v) s = busCommand s (.write .control v) := rfl
theorem exec_lineUp (p : Port) (s : State) : exec (.lineUp p) s = operate s fun s => s.takeLineUp p := rfl
theorem exec_lineDown (p : Port) (s : State) : exec (.lineDown p) s = operate s fun s => s.takeLineDown p := rfl
theorem exec_burstStart (p : Port) (s : State) : exec (.burstStart p) s =
    operate s fun s => s.takeBurstStart p := rfl
theorem exec_byte (p : Port) (b : Byte) (s : State) : exec (.byte p b) s = operate s fun s => s.takeByte p b := rfl
theorem exec_burstEnd (p : Port) (s : State) : exec (.burstEnd p) s = operate s fun s => s.takeBurstEnd p := rfl
theorem exec_codeViolation (p : Port) (s : State) : exec (.codeViolation p) s =
    operate s fun s => s.takeCodeViolation p := rfl
theorem exec_receiveTimeout (p : Port) (s : State) : exec (.receiveTimeout p) s =
    operate s fun s => s.expireReceive p := rfl
theorem exec_startItem (p : Port) (s : State) : exec (.startItem p) s = operate s fun s => s.executeStart p := rfl
theorem exec_stopItem (p : Port) (s : State) : exec (.stopItem p) s = operate s fun s => s.executeStop p := rfl
theorem exec_readItem (p : Port) (s : State) : exec (.readItem p) s = operate s fun s => s.executeRead p := rfl
theorem exec_writeItem (p : Port) (s : State) : exec (.writeItem p) s = operate s fun s => s.executeWrite p := rfl
theorem exec_arbiterGrant (s : State) : exec .arbiterGrant s = operate s State.chooseGrant := rfl
theorem exec_grantPerformed (s : State) : exec .grantPerformed s = operate s fun s => s.performGrant := rfl
theorem exec_responseStart (p : Port) (s : State) : exec (.responseStart p) s =
    operate s fun s => s.startResponse p := rfl
theorem exec_returnEntryTake (p : Port) (s : State) : exec (.returnEntryTake p) s =
    operate s fun s => s.takeEntry p := rfl
theorem exec_returnEnd (p : Port) (s : State) : exec (.returnEnd p) s = operate s fun s => s.endReturn p := rfl
theorem exec_reportSent (p : Port) (s : State) : exec (.reportSent p) s = operate s fun s => s.sendReport p := rfl
theorem exec_ackSent (p : Port) (s : State) : exec (.ackSent p) s = operate s fun s => s.sendAck p := rfl
theorem exec_endSymbolSent (p : Port) (s : State) : exec (.endSymbolSent p) s =
    operate s fun s => s.sendEnd p := rfl
theorem exec_defineAperture (s : State) : exec .defineAperture s = busCommand s (.write .cmd 0x0011) := rfl
theorem exec_clearAperture (s : State) : exec .clearAperture s = busCommand s (.write .cmd 0x0012) := rfl
theorem exec_bind (s : State) : exec .bind s = busCommand s (.write .cmd 0x0021) := rfl
theorem exec_unbind (s : State) : exec .unbind s = busCommand s (.write .cmd 0x0022) := rfl
theorem exec_retireAbort (s : State) : exec .retireAbort s = busCommand s (.write .cmd 0x0031) := rfl
theorem exec_retireDrain (s : State) : exec .retireDrain s = busCommand s (.write .cmd 0x0031) := rfl
theorem exec_drainTimerExpiry (s : State) : exec .drainTimerExpiry s = operate s fun s => s.expireDrain := rfl
theorem exec_suspendPort (s : State) : exec .suspendPort s = busCommand s (.write .cmd 0x0041) := rfl
theorem exec_resumePort (s : State) : exec .resumePort s = busCommand s (.write .cmd 0x0042) := rfl
theorem exec_resetPort (s : State) : exec .resetPort s = busCommand s (.write .cmd 0x0043) := rfl
theorem exec_hostOpen (s : State) : exec .hostOpen s = busCommand s (.write .cmd 0x0051) := rfl
theorem exec_hostClose (s : State) : exec .hostClose s = busCommand s (.write .cmd 0x0052) := rfl
theorem exec_badCommand (v : Word) (s : State) : exec (.badCommand v) s = busCommand s (.write .cmd v) := rfl
theorem exec_cmdCollision (v : Word) (s : State) : exec (.cmdCollision v) s = busCommand s (.write .cmd v) := rfl
theorem exec_hostDataWrite (v : Word) (s : State) : exec (.hostDataWrite v) s =
    busCommand s (.write .hostData v) := rfl
theorem exec_hostDataRead (released : Bool) (s : State) : exec (.hostDataRead released) s =
    busCommand s (.read .hostData released) := rfl
theorem exec_faultPop (v : Word) (s : State) : exec (.faultPop v) s = busCommand s (.write .faultCount v) := rfl
theorem exec_errorCounterRead (q : Source) (released : Bool) (s : State) : exec (.errorCounterRead q released) s =
    busCommand s (.read (.errorCounter q) released) := rfl
theorem exec_ctxCursorLoRead (released : Bool) (s : State) : exec (.ctxCursorLoRead released) s =
    busCommand s (.read (.ctxCursor false) released) := rfl
theorem exec_hostCursorLoRead (released : Bool) (s : State) : exec (.hostCursorLoRead released) s =
    busCommand s (.read (.hostCursor false) released) := rfl
theorem exec_intStatusWrite (v : Word) (s : State) : exec (.intStatusWrite v) s =
    busCommand s (.write .intStatus v) := rfl
theorem exec_markFlagsWrite (hi : Bool) (v : Word) (s : State) : exec (.markFlagsWrite hi v) s =
    busCommand s (.write (.markFlags hi) v) := rfl
theorem exec_alertWrite (v : Word) (s : State) : exec (.alertWrite v) s = busCommand s (.write .alert v) := rfl
theorem exec_ctxSelectWrite (v : Word) (s : State) : exec (.ctxSelectWrite v) s =
    busCommand s (.write .ctxSelect v) := rfl
theorem exec_classMapWrite (hi : Bool) (v : Word) (s : State) : exec (.classMapWrite hi v) s =
    busCommand s (.write (.classMap hi) v) := rfl
theorem exec_returnLimitSelect (v : Word) (s : State) : exec (.returnLimitSelect v) s =
    busCommand s (.write .returnLimit v) := rfl
theorem exec_registerWrite (offset : BitVec 8) (v : Word) (s : State) : exec (.registerWrite offset v) s =
    busCommand s (.write (registerAt offset) v) := rfl

/-- A state is known by its fields. -/
theorem State.eq_of {s t : State} (h1 : s.inReset = t.inReset) (h2 : s.powerOns = t.powerOns)
    (h3 : s.freeCount = t.freeCount) (h4 : s.store = t.store) (h5 : s.arbiter = t.arbiter)
    (h6 : s.apertures = t.apertures) (h7 : s.marks = t.marks) (h8 : s.bindings = t.bindings)
    (h9 : s.contexts = t.contexts) (h10 : s.hostContext = t.hostContext) (h11 : s.ports = t.ports)
    (h12 : s.command = t.command) (h13 : s.retire = t.retire) (h14 : s.faults = t.faults)
    (h15 : s.interrupts = t.interrupts) (h16 : s.window = t.window) (h17 : s.bus = t.bus)
    (h18 : s.pending = t.pending) : s = t := by
  cases s; cases t; simp_all

end Sys2Proof.Machine
end

