-- ==== Sys2Proof/Laws/Bus.lean ====
section
/-! SUPPORT. The host bus (R180): what a held cycle does when it is taken, and how far the held cycles are taken after a
HOST_DATA grant. And the one choice after a sizing (R75). -/

namespace Sys2Proof.Machine

/-! ### Held cycles -/

@[simp] theorem BusCycle.isReleased_read (r : Register) (released : Bool) :
    (BusCycle.read r released).isReleased = released := rfl
@[simp] theorem BusCycle.isReleased_write (r : Register) (v : Word) : (BusCycle.write r v).isReleased = false := rfl

/-- R180: an ended cycle leaves the data lines as they were. -/
@[simp] theorem State.takeEndedCycle_readData (s : State) (c : BusCycle) :
    (s.takeEndedCycle c).bus.readData = s.bus.readData := rfl
/-- R180: an ended cycle posts what the cycle posts. -/
@[simp] theorem State.takeEndedCycle_arbiter (s : State) (c : BusCycle) :
    (s.takeEndedCycle c).arbiter = (s.takeCycle c).arbiter := rfl

/-- R180: a cycle with another held behind it has ended. -/
theorem State.takeHeldCycle_behind (s : State) (c : BusCycle) {behind : List BusCycle} (h : behind ≠ []) :
    s.takeHeldCycle c behind = s.takeEndedCycle c := by simp [State.takeHeldCycle, h]

/-- R180: the last held cycle is taken as any cycle, unless its strobe was released. -/
theorem State.takeHeldCycle_last (s : State) (c : BusCycle) :
    s.takeHeldCycle c [] = if c.isReleased then s.takeEndedCycle c else s.takeCycle c := by
  simp [State.takeHeldCycle]

@[simp] theorem State.takeHeld_nil (s : State) : s.takeHeld [] = { s with bus := { s.bus with held := [] } } := rfl

/-- R180: the front cycle is taken first; one that posts a request leaves the rest held. -/
theorem State.takeHeld_cons (s : State) (c : BusCycle) (rest : List BusCycle) :
    s.takeHeld (c :: rest) =
      if (s.takeHeldCycle c rest).arbiter.hostRequest.isSome then
        { s.takeHeldCycle c rest with bus := { (s.takeHeldCycle c rest).bus with held := rest } }
      else (s.takeHeldCycle c rest).takeHeld rest := rfl

/-- R180: cycles that post no request are all taken before the cycle held behind them. -/
theorem State.takeHeld_append (s : State) (ahead : List BusCycle) (c : BusCycle) (behind : List BusCycle)
    (h : ∀ k : Nat, k ≤ ahead.length → ((ahead.take k).foldl State.takeEndedCycle s).arbiter.hostRequest = none) :
    s.takeHeld (ahead ++ c :: behind) = (ahead.foldl State.takeEndedCycle s).takeHeld (c :: behind) := by
  induction ahead generalizing s with
  | nil => rfl
  | cons d ahead ih =>
    have h1 : (s.takeEndedCycle d).arbiter.hostRequest = none := h 1 (by simp)
    rw [List.cons_append, State.takeHeld_cons, State.takeHeldCycle_behind s d (by simp), h1]
    exact ih (s.takeEndedCycle d) fun k hk => h (k + 1) (Nat.succ_le_succ hk)

/-! ### After a sizing -/

/-- R112: a port still RUNNING after the sizing begins the RETURN. -/
theorem State.beginSized_running {s : State} {p : Port} (h : (s.port p).mode = .running) (t : Stream) (n : Nat) :
    s.beginSized p t n = s.beginReturn p t n := by simp [State.beginSized, h]

/-- R75: a port that the sizing has suspended begins none. -/
theorem State.beginSized_suspended {s : State} {p : Port} (h : (s.port p).mode = .suspended) (t : Stream) (n : Nat) :
    s.beginSized p t n = s.endReturnsIfDone p := by simp [State.beginSized, h]

end Sys2Proof.Machine
end

