-- ==== Sys2Proof/WellFormed.lean ====
section
/-! DEFINITION. Which commands are well formed: the operands are those the row of spec/opcode_table.json speaks of.
An ill-formed command still has a meaning (it is the bus write its operands name); a sender that keeps to the table
sends well-formed ones. -/

namespace Sys2Proof

/-- The ten opcodes (R186). -/
def opcodes : List Word :=
  [0x0011, 0x0012, 0x0021, 0x0022, 0x0031, 0x0041, 0x0042, 0x0043, 0x0051, 0x0052]

/-- The offsets whose writes have a row of their own in the table: CONTROL, CMD, INT_STATUS, ALERT, CLASS_MAP lo and
hi, MARK_FLAGS lo and hi, FAULT_POP, CTX_SELECT, HOST_DATA and RETURN_LIMIT (R183). -/
def offsetsWithRow : List (BitVec 8) :=
  [0x02, 0x06, 0x24, 0x28, 0x2A, 0x2C, 0x2E, 0x30, 0x40, 0x4C, 0x5A, 0x78]

/-- SOFT_RESET is bit 8 of the value written to CONTROL (R182). -/
def isSoftReset (v : Word) : Bool := v.getLsbD 8

/-- The operands are those the row speaks of. -/
def Instr.wellFormed : Instr → Bool
  | .softReset v => isSoftReset v
  | .portEnable v => !isSoftReset v
  | .portDisable v => !isSoftReset v
  | .badCommand v => !opcodes.contains v
  | .registerWrite offset _ => offset.toNat % 2 == 0 && !offsetsWithRow.contains offset
  | .powerOnReset _ | .lineUp _ | .lineDown _ | .burstStart _ | .byte _ _ | .burstEnd _ | .codeViolation _
  | .receiveTimeout _ | .startItem _ | .stopItem _ | .readItem _ | .writeItem _ | .arbiterGrant | .grantPerformed
  | .responseStart _ | .returnEntryTake _ | .returnEnd _ | .reportSent _ | .ackSent _ | .endSymbolSent _
  | .defineAperture | .clearAperture | .bind | .unbind | .retireAbort | .retireDrain | .drainTimerExpiry
  | .suspendPort | .resumePort | .resetPort | .hostOpen | .hostClose | .cmdCollision _ | .hostDataWrite _
  | .hostDataRead _ | .faultPop _ | .errorCounterRead _ _ | .ctxCursorLoRead _ | .hostCursorLoRead _ | .intStatusWrite _
  | .markFlagsWrite _ _ | .alertWrite _ | .ctxSelectWrite _ | .classMapWrite _ _ | .returnLimitSelect _ => true

end Sys2Proof
end

