-- ==== Sys2Proof/Tests/Slice0.lean ====
section
/-! SUPPORT. The tests: the checks of WellFormed refuse an ill-formed command each; one step of a command on a small
state, with expected values taken from the worked examples and tables of spec/ or computed by hand from its rules; and, for
every obligation with hypotheses, a witness: concrete states and operands that meet the hypotheses of its clauses. -/

open Sys2Proof Sys2Proof.Machine

namespace Sys2Proof.Tests

/-! ### WellFormed refuses an ill-formed command for each of its checks -/

/-- R182: SOFT_RESET is bit 8. -/
theorem test_wellFormed_softReset : Instr.wellFormed (.softReset 0x00FF) = false := by decide

theorem test_wellFormed_portEnable : Instr.wellFormed (.portEnable 0x0101) = false := by decide

theorem test_wellFormed_portDisable : Instr.wellFormed (.portDisable 0x0100) = false := by decide

/-- R186: $0031 is an opcode, RETIRE. -/
theorem test_wellFormed_badCommand : Instr.wellFormed (.badCommand 0x0031) = false := by decide

/-- R183: registers stand at even offsets; CMD has rows of its own. -/
theorem test_wellFormed_registerWrite :
    Instr.wellFormed (.registerWrite 0x09 0) = false ∧ Instr.wellFormed (.registerWrite 0x06 0) = false := by decide

/-- A sender that keeps to the table sends these. -/
theorem test_wellFormed_accepts :
    ∀ c ∈ ([.softReset 0x0100, .portEnable 0x000F, .portDisable 0, .badCommand 0, .registerWrite 0x26 0x1FFF] : List Instr),
      Instr.wellFormed c = true := by decide

/-! ### The small states -/

theorem operating_of_idle {s : State} (h1 : s.inReset = false) (h2 : s.retire.phase = .idle) : Operating s :=
  ⟨h1, fun h => absurd (h2.symm.trans h) (by decide)⟩

theorem busFree_of_idle {s : State} (h1 : s.inReset = false) (h2 : s.retire.phase = .idle)
    (h3 : s.arbiter.hostRequest = none) : BusFree s := ⟨operating_of_idle h1 h2, h3⟩

theorem ready_of_idle {s : State} (h1 : s.inReset = false) (h2 : s.retire.phase = .idle)
    (h3 : s.arbiter.hostRequest = none) (h4 : s.command.busy = false) : CommandReady s :=
  ⟨busFree_of_idle h1 h2 h3, h4⟩

/-- Two columns and two rows, the second row wrapping to 0; a mark at line 1. -/
def stopRecord : Aperture := ⟨true, ⟨4, 5, 255, 0, .rows, .stop, 1⟩, ⟨true, true⟩, 1⟩

def loopRecord : Aperture := ⟨true, ⟨0, 0, 9, 9, .columns, .loop, 0⟩, ⟨true, true⟩, 2⟩

def readRecord : Aperture := ⟨true, ⟨0, 1023, 0, 255, .rows, .stop, 0⟩, ⟨true, false⟩, 0⟩

/-- Entries 1, 2 and 31 DEFINED. On port 0 stream 0 is bound to entry 1, stream 1 to entry 2 and stream 2, for writing alone,
to entry 31, which gives READ alone; stream 3 is not bound. -/
def base : State :=
  { State.reset with
    apertures := (((Bank.fill 32 Aperture.reset).set 1 stopRecord).set 2 loopRecord).set 31 readRecord
    bindings := (Bank.fill 4 (Bank.fill 4 none)).set 0
      ((((Bank.fill 4 none).set 0 (some ⟨1, ⟨true, true⟩⟩)).set 1 (some ⟨2, ⟨true, true⟩⟩)).set 2
        (some ⟨31, ⟨false, true⟩⟩)) }

def stopCopy : Copy := ⟨1, stopRecord.geometry, ⟨true, true⟩, 1⟩

def loopCopy : Copy := ⟨2, loopRecord.geometry, ⟨true, true⟩, 2⟩

/-- The base state with port 0 as given. -/
def onPort (x : PortState) : State := base.setPort 0 x

def listening : PortState := { PortState.reset with enabled := true, link := .listening }

/-- An open burst on port 0. -/
def inBurst (x : Position) : State := onPort { listening with burst := some ⟨x, false, false⟩ }

/-- The header of a packet with sequence 0: type, stream, length or parameter. -/
def packet (type : Byte) (stream : Stream) (parameter : Word) : HeaderBits :=
  parameter ++ (BitVec.ofNat 8 stream.val) ++ type

def item (kind : ItemKind) (stream : Stream) (parameter : Word) : WorkItem :=
  ⟨kind, stream, parameter, packet (if kind = .write then 0xA1 else 0x23) stream parameter, .ready,
    if kind = .write then some 0 else none⟩

/-- Port 0 LISTENING with a queue, and the context of its stream 0. -/
def working (queue : List WorkItem) (c : HeadContext) : State :=
  (onPort { listening with queue := queue }).setContext 0 0 c

def openAt (cursor : Nat) : HeadContext := ⟨.opened, some stopCopy, false, cursor, 0⟩

/-- The base state with the four argument registers as given. -/
def arguments (a0 a1 a2 a3 : Word) : State :=
  { base with
    command := { base.command with
      args := Bank.tabulate fun i => if i = 0 then a0 else if i = 1 then a1 else if i = 2 then a2 else a3 } }

/-- A write request of port 0 for stream 0, being granted. -/
def granting (s : State) (access : Access) (stream : Stream) : State :=
  { s with
    arbiter := { s.arbiter with
      granting := some (.port 0)
      portRequests := s.arbiter.portRequests.set 0
        (some
          { access := access
            row := 255
            column := 5
            stream := some stream
            aperture := 1
            generation := 1
            marking := true
            wanted := true
            standing := true }) } }

/-- A drain in progress over port 0 stream 0, with one unit left. -/
def draining (x : PortState) (timer : Option Nat) : State :=
  { (onPort x).setContext 0 0 ⟨.retiring, some stopCopy, false, 3, 0⟩ with
    command := { base.command with busy := true }
    retire := ⟨.draining, [.head 0 0], 1, 0, 0, timer, 625⟩ }

theorem operating_draining (x : PortState) (timer : Option Nat)
    (h : ∀ (p : Port) (t : Stream), ((draining x timer).context p t).state = .retiring → (draining x timer).inFlight p t ≠ 0) :
    Operating (draining x timer) := ⟨rfl, fun _ => ⟨⟨0, 0, rfl⟩, h⟩⟩

/-! ### Values the spec works out -/

/-- Chapter 0, the ROWS example, and chapter 1, Walking examples: the COLUMNS aperture of mark 2. -/
theorem test_walks :
    (⟨100, 109, 250, 3, .rows, .stop, 0⟩ : Geometry).size = 100 ∧
    (⟨100, 109, 250, 3, .rows, .stop, 0⟩ : Geometry).rowAt 63 = 0 ∧
    (⟨100, 109, 250, 3, .rows, .stop, 0⟩ : Geometry).columnAt 63 = 103 ∧
    (let g : Geometry := ⟨500, 502, 254, 1, .columns, .stop, 2⟩
     g.size = 12 ∧ (g.rowAt 6, g.columnAt 6) = (0, 501) ∧ (g.rowAt 8, g.columnAt 8) = (254, 502) ∧
       ((List.range 12).filter fun k => g.isMarking k) = [7]) ∧
    ((List.range 12).filter fun k => (⟨500, 502, 254, 1, .rows, .stop, 2⟩ : Geometry).isMarking k) = [5] := by decide

/-- Chapter 3, Checking a header: the four ways a TURN is received, and bit 7 of the check byte. -/
theorem test_header_check :
    judgeHeader 0x00000C2F 0x45 = .clean 0x00000C2F ∧ judgeHeader 0x00000C3F 0x45 = .corrected 0x00000C2F ∧
    judgeHeader 0x00000C2F 0x44 = .corrected 0x00000C2F ∧ judgeHeader 0x00000C7F 0x45 = .uncorrectable ∧
    judgeHeader 0x00000C2F 0xC5 = .clean 0x00000C2F := by and_intros <;> rfl

/-- Chapter 3, A checksum worked through. -/
theorem test_checksum : sumByte 0xFFFF 0 = 0x40BF ∧ sumByte 0x40BF 0 = 0xB001 ∧ sumCells [0] = 0xB001 := by decide +kernel

/-- R183: ID and CLASS_MAP after power-on reset. -/
theorem test_registers_at_reset :
    State.reset.readRegister .id = 0x6341 ∧ State.reset.readRegister (.classMap false) = 0x5454 ∧
    State.reset.readRegister (.classMap true) = 0x1015 ∧ State.reset.readRegister .returnLimit = 0x0020 := by decide

/-- Chapter 11, Reading a record, and section 12.9. -/
theorem test_fault_window :
    (let s : State := { base with
       faults := { base.faults with
         queue := [⟨⟨.apertureEnd, .port 3, some 0, some ⟨12, 200⟩, some ⟨0xA1, 0x005004A1⟩⟩, 2⟩] } }
     s.readRegister .faultInfo = 0x1C39 ∧ s.readRegister .faultRepeat = 0xA102 ∧
       s.readRegister .faultAperture = 0x000C ∧ s.readRegister (.faultOffset false) = 0x00C8 ∧
       s.readRegister (.faultCapture false) = 0x04A1 ∧ s.readRegister (.faultCapture true) = 0x0050) ∧
    (let s : State := { base with
       faults := { base.faults with queue := [⟨⟨.rights, .port 3, some 2, none, some ⟨0x22, 0x00000222⟩⟩, 3⟩] } }
     s.readRegister .faultInfo = 0x1638 ∧ s.readRegister .faultRepeat = 0x2203 ∧
       s.readRegister (.faultCapture false) = 0x0222) := by decide

/-! ### One step of a command -/

/-- What a command leaves, read by `f`. -/
def leaves {α : Type} (c : Instr) (s : State) (f : State → α) : Option α :=
  match step { s with pending := [c] } with
  | .next t => some (f t)
  | .fault _ => none
  | .refused _ => none

/-- R181. -/
theorem test_powerOnReset : leaves (.powerOnReset true) base (fun t => (t.inReset, t.apertures)) =
    some (true, State.reset.apertures) := by rfl

/-- R174, R182: a soft reset keeps the aperture table; DETAIL and BUSY clear. -/
theorem test_softReset :
    leaves (.softReset 0x010F) (draining listening (some 9)) (fun t => (t.apertures, t.command.busy, (t.port 0).link)) =
      some (base.apertures, false, .off) := by rfl

/-- Section 12.1, step 6. -/
theorem test_portEnable : leaves (.portEnable 0x000F) base (fun t => (t.readRegister .control, (t.port 3).link)) =
    some (0x000F, .waitSync) := by rfl

/-- R68. -/
theorem test_portDisable :
    leaves (.portDisable 0) (onPort { listening with ackCount := 4, mode := .suspended, queue := [item .stop 0 0] })
      (fun t => ((t.port 0).link, (t.port 0).ackCount, (t.port 0).mode, (t.port 0).queue)) =
      some (.off, 0, .suspended, []) := by rfl

/-- R70. -/
theorem test_lineUp :
    leaves (.lineUp 0) (onPort { listening with link := .waitSync, expectation := some 3, responseCounter := 5 })
      (fun t => ((t.port 0).link, (t.port 0).expectation, (t.port 0).responseCounter, t.interrupts.line.get 0)) =
      some (.listening, none, 0, true) := by rfl

/-- R71: the RECEIVING item goes, the READY one stays. -/
theorem test_lineDown :
    leaves (.lineDown 0)
      (onPort { listening with
        queue := [item .stop 0 0, { item .write 0 1 with state := .receiving 0 }], reportFlags := 8 })
      (fun t => ((t.port 0).link, (t.port 0).queue, (t.port 0).reportFlags)) =
      some (.waitSync, [item .stop 0 0], 8) := by rfl

/-- R44, R61: the timer runs for RX_LIMIT, which is 2000 at reset (R83). -/
theorem test_burstStart : leaves (.burstStart 0) (onPort listening) (fun t => (t.port 0).rxTimer) =
    some (some 2000) := by rfl

/-- Chapter 3, Checking a header: the last byte of the TURN; the sequence expectation is then 4 (R57). -/
theorem test_byte_completes_turn :
    leaves (.byte 0 0x45) (inBurst (.header [0x2F, 0x0C, 0, 0]))
      (fun t => ((t.port 0).burst, (t.port 0).expectation)) = some (some ⟨.header [], true, false⟩, some 4) := by rfl

/-- Chapter 3, A checksum worked through: the second checksum byte $B0 makes the WRITE READY. -/
theorem test_byte_ends_write :
    leaves (.byte 0 0xB0)
      (onPort { listening with
        burst := some ⟨.check (packet 0xA1 0 1) (some 0x01) 0xB001, false, false⟩
        queue := [{ item .write 0 1 with state := .receiving 1 }] })
      (fun t => (t.port 0).queue) = some [item .write 0 1] := by rfl

/-- R57, R76: with SEQUENCE in class 2 (kind 4; SUSPENDED is kind 13) and sequence 1 expected, a STOP and a WRITE of one
cell with sequence 0 suspend the port; the STOP joins the queue, and the WRITE is removed and its 4 bytes skipped. -/
theorem test_sequence_discards_nothing :
    let s := { onPort { listening with burst := some ⟨.header [], false, false⟩, expectation := some 1 } with
      faults := { base.faults with classMap := Bank.fill 16 .class2 } }
    let seen := fun (d : HeaderBits) =>
      let x := (s.takeHeader 0 false d (0#1 ++ checkBits d)).port 0
      (x.mode, x.queue.map (·.kind), x.burst.map (·.position), x.reportFlags)
    seen (packet 0x22 3 0) = (.suspended, [.stop], some (.header []), 0x2010) ∧
      seen (packet 0xA1 3 1) = (.suspended, [], some (.skip (packet 0xA1 3 1) 4), 0x2010) := by decide +kernel

/-- R46, R47: a burst that ends between packets is not broken and hands over its TURN. -/
theorem test_burstEnd :
    leaves (.burstEnd 0) (onPort { listening with burst := some ⟨.header [], true, false⟩ })
      (fun t => ((t.port 0).link, (t.port 0).burst, (t.faults.counters.get 0).count)) = some (.turnWait, none, 0) := by
  rfl

/-- R46: BURST_BROKEN is kind 5 (section 10.1). -/
theorem test_codeViolation :
    leaves (.codeViolation 0) (inBurst (.header [1]))
      (fun t => ((t.port 0).burst, (t.port 0).reportFlags)) = some (some ⟨.discard, false, true⟩, 0x0020) := by rfl

/-- R62: RX_TIMEOUT is kind 6. -/
theorem test_receiveTimeout :
    leaves (.receiveTimeout 0) (onPort { listening with burst := some ⟨.header [], true, false⟩, rxTimer := some 1 })
      (fun t => ((t.port 0).link, (t.port 0).burst, (t.port 0).reportFlags)) = some (.listening, none, 0x0040) := by
  rfl

/-- R31: an origin START loads the copy of the entry its slot names. -/
theorem test_startItem :
    leaves (.startItem 0) (working [item .start 0 0] HeadContext.reset)
      (fun t => (t.context 0 0, (t.port 0).queue, (t.port 0).ackCount)) = some (openAt 0, [], 1) := by rfl

/-- Section 12.9: a STOP of an EMPTY context raises RIGHTS, kind 8. -/
theorem test_stopItem :
    leaves (.stopItem 0) (working [item .stop 0 0] HeadContext.reset)
      (fun t => (t.faults.queue.map fun r => (r.claim.kind, r.repeats), (t.port 0).reportFlags, (t.port 0).ackCount)) =
      some ([(.rights, 1)], 0x0100, 1) := by rfl

/-- R102. -/
theorem test_readItem :
    leaves (.readItem 0) (working [item .read 0 1024] (openAt 0)) (fun t => (t.port 0).returns) =
      some [⟨0, 1024, packet 0x23 0 1024⟩] := by rfl

/-- R95: the request for payload cell 0 names the cell at the cursor: offset 3 is row 0, column 5. -/
theorem test_writeItem :
    leaves (.writeItem 0)
      ((onPort { listening with queue := [item .write 0 1], slots := (Bank.fill 2 []).set 0 [0xBEEF] }).setContext 0 0
        (openAt 3))
      (fun t => (t.request 0).map fun r => (r.access, r.row, r.column)) = some (some (.write 0xBEEF, 0, 5)) := by rfl

/-- R4: after a grant of P3 the next in the cyclic order is H, then P0. -/
theorem test_arbiterGrant :
    leaves .arbiterGrant
      (let s := granting base .read 0
       { s with arbiter := { s.arbiter with granting := none, pointer := .port 3 } })
      (fun t => (t.arbiter.pointer, t.arbiter.granting)) = some (.port 0, some (.port 0)) := by rfl

/-- R36, R37: the grant of the last cell of a STOP copy leaves the context ENDED at size. -/
theorem test_grantPerformed :
    leaves .grantPerformed (granting (working [] (openAt 3)) .read 0)
      (fun t => (t.context 0 0, t.request 0)) = some ({ openAt 4 with state := .ended }, none) := by rfl

/-- R108, R114: with nothing to return and nothing pending the snapshot is empty. -/
theorem test_responseStart :
    leaves (.responseStart 0) (onPort { listening with link := .turnWait })
      (fun t => ((t.port 0).link, (t.port 0).builder)) = some (.responding, ⟨.report, none, false, some 0⟩) := by rfl

def responding (b : Builder) : PortState := { listening with link := .responding, builder := b }

/-- R111: a count of 10 over a STOP copy with 1 cell left: TRUNCATED (kind 11) and then APERTURE_END (kind 9). -/
theorem test_returnEntryTake :
    leaves (.returnEntryTake 0)
      ((onPort { responding ⟨.returns, none, false, none⟩ with returns := [⟨0, 10, 0⟩] }).setContext 0 0 (openAt 3))
      (fun t => ((t.port 0).builder.current.map (·.length), (t.port 0).reportFlags)) = some (some 1, 0x0A00) := by rfl

/-- R75, R76: with TRUNCATED in class 2 the same sizing suspends the port: no RETURN is begun, and the snapshot holds
SUSPENDED (kind 13). -/
theorem test_returnEntryTake_suspended :
    leaves (.returnEntryTake 0)
      (let s := (onPort { responding ⟨.returns, none, false, none⟩ with returns := [⟨0, 10, 0⟩] }).setContext 0 0 (openAt 3)
       { s with faults := { s.faults with classMap := s.faults.classMap.set 11 .class2 } })
      (fun t => ((t.port 0).builder.current, (t.port 0).builder.snapshot)) = some (none, some 0x2A00) := by rfl

/-- R112: the RETURN of one cell of value 0 carries the checksum $B001. -/
theorem test_returnEnd :
    leaves (.returnEnd 0) (onPort (responding ⟨.returns, some ⟨0, 1, 0x000100B1, [0], false⟩, true, none⟩))
      (fun t => (t.port 0).line.packets.map fun x => x.checksum) = some [some 0xB001] := by decide +kernel

/-- Section 12.9: REPORT $0100, sequence 0. -/
theorem test_reportSent :
    leaves (.reportSent 0) (onPort (responding ⟨.report, none, false, some 0x0100⟩))
      (fun t => ((t.port 0).line.packets.map (·.header), (t.port 0).responseCounter)) = some ([0x01000032], 1) := by rfl

/-- R115: an ACK carries the ACK count. -/
theorem test_ackSent :
    leaves (.ackSent 0) (onPort { responding ⟨.report, none, false, some 0⟩ with ackCount := 3 })
      (fun t => (t.port 0).line.packets.map (·.header)) = some [0x00030031] := by rfl

/-- Section 12.9: after the end symbol the ACK count is 0. -/
theorem test_endSymbolSent :
    leaves (.endSymbolSent 0)
      (onPort { responding ⟨.closing, none, true, some 0x0100⟩ with reportFlags := 0x0900, ackCount := 3 })
      (fun t => ((t.port 0).link, (t.port 0).reportFlags, (t.port 0).ackCount)) = some (.listening, 0x0800, 0) := by rfl

/-- Chapter 11, Staging a definition: aperture 5. -/
theorem test_defineAperture :
    leaves .defineAperture (arguments 0x1710 0x6000 0x2BFF 0x0008) (fun t => (t.command.result, t.aperture 5)) =
      some (.done, ⟨true, ⟨0, 1023, 16, 23, .rows, .stop, 8⟩, ⟨true, true⟩, 1⟩) := by rfl

/-- Chapter 11, Staging a definition: n = 37. -/
theorem test_defineAperture_badIndex :
    leaves .defineAperture (arguments 0x1710 0xE000 0x2BFF 0x0008) (fun t => t.command.result) =
      some .badIndex := by rfl

/-- R15: an entry that a slot names is in use. -/
theorem test_clearAperture :
    leaves .clearAperture (arguments 0x0100 0 0 0) (fun t => (t.command.result, (t.aperture 1).isDefined)) =
      some (.inUse, true) := by rfl

/-- R22. -/
theorem test_bind :
    leaves .bind (arguments 0x0230 0x0003 0 0) (fun t => (t.command.result, t.slot 0 3)) =
      some (.done, some ⟨2, ⟨true, true⟩⟩) := by rfl

/-- R23. -/
theorem test_unbind :
    leaves .unbind (arguments 0x0010 0 0 0) (fun t => (t.command.result, t.slot 0 1)) = some (.done, none) := by rfl

/-- R138 to R141: ALL in abort mode over one OPEN context with one item: details 1, 0, 1. -/
theorem test_retireAbort :
    leaves .retireAbort (working [item .stop 0 0] (openAt 2))
      (fun t => (t.command.result, t.command.details, (t.context 0 0).state, (t.port 0).queue)) =
      some (.done, ((Bank.fill 3 0).set 0 1).set 2 1, .retired, []) := by decide +kernel

/-- R136, R142: DRAIN_LIMIT 625 at reset is 10,000 µs. -/
theorem test_retireDrain :
    leaves .retireDrain
      (let s := working [item .stop 0 0] (openAt 2)
       { s with command := { s.command with args := (Bank.fill 4 0).set 1 0x0100 } })
      (fun t => (t.command.busy, t.retire.timer, (t.context 0 0).state)) = some (true, some 10000, .retiring) := by decide +kernel

/-- R147: DONE_FORCED, with the unit left aborted. -/
theorem test_drainTimerExpiry :
    leaves .drainTimerExpiry (draining { listening with queue := [item .stop 0 0] } (some 1))
      (fun t => (t.command.result, t.command.details, t.command.busy)) =
      some (.doneForced, ((Bank.fill 3 0).set 0 1).set 2 1, false) := by decide +kernel

/-- R74, R132: SUSPENDED is kind 13, class 0 by default; the SUSPEND latch is not set. -/
theorem test_suspendPort :
    leaves .suspendPort (working [] HeadContext.reset)
      (fun t => ((t.port 0).mode, (t.port 0).reportFlags, t.faults.queue, t.interrupts.suspend.get 0)) =
      some (.suspended, 0x2000, [], false) := by rfl

/-- R77. -/
theorem test_resumePort : leaves .resumePort base (fun t => t.command.result) = some .notSuspended := by rfl

/-- R78. -/
theorem test_resetPort :
    leaves .resetPort (onPort { listening with mode := .suspended, returnLimit := 5, ackCount := 2 })
      (fun t => ((t.port 0).mode, (t.port 0).returnLimit, (t.port 0).ackCount, (t.port 0).link)) =
      some (.running, 32, 0, .waitSync) := by rfl

/-- R152. -/
theorem test_hostOpen :
    leaves .hostOpen (arguments 0x0100 0 0 0) (fun t => t.hostContext) = some ⟨.opened, some stopCopy, 0, 0⟩ := by rfl

def hostAt (state : HostState) (cursor : Nat) : State := { base with hostContext := ⟨state, some stopCopy, cursor, 7⟩ }

/-- R153: the copy and the passes are kept. -/
theorem test_hostClose :
    leaves .hostClose (hostAt .ended 4) (fun t => t.hostContext) = some ⟨.closed, some stopCopy, 0, 7⟩ := by rfl

/-- R128. -/
theorem test_badCommand :
    leaves (.badCommand 0) base (fun t => (t.command.result, t.interrupts.cmdDone)) = some (.badCommand, true) := by rfl

/-- R126. -/
theorem test_cmdCollision :
    leaves (.cmdCollision 0x0052) (draining { listening with queue := [item .stop 0 0] } none)
      (fun t => (t.command.collision, t.command.lastOpcode, t.command.busy)) = some (true, 0, true) := by decide +kernel

/-- R154, R20: the request stands, and WAIT is asserted. -/
theorem test_hostDataWrite :
    leaves (.hostDataWrite 0x1234) (hostAt .opened 1)
      (fun t => (t.arbiter.hostRequest.map fun r => (r.access, r.row, r.column), t.wait)) =
      some (some (.write 0x1234, 255, 5), true) := by rfl

/-- R155, R156: a CLOSED context: $0000 and NOT_BOUND on H. -/
theorem test_hostDataRead :
    leaves .hostDataRead base (fun t => (t.bus.readData, t.faults.queue.map fun r => (r.claim.kind, r.claim.source))) =
      some (some 0, [(.notBound, .host)]) := by rfl

/-- R180: the host released its strobe while WAIT was asserted: the grant drives nothing, and the cursor advances. -/
theorem test_hostDataRead_released :
    ((leaves (.hostDataRead true) (hostAt .opened 1) id).bind fun s =>
      leaves .grantPerformed { s with arbiter := { s.arbiter with granting := some .host } }
        (fun t => (t.bus.readData, t.hostContext.cursor))) = some (none, 2) := by rfl

/-- R172. -/
theorem test_faultPop :
    leaves (.faultPop 0xFFFF)
      { base with faults := { base.faults with queue := [⟨⟨.format, .port 0, none, none, none⟩, 1⟩] } }
      (fun t => t.faults.queue) = some [] := by rfl

/-- R176: the overflow flag is bit 7. -/
theorem test_errorCounterRead :
    leaves (.errorCounterRead .host)
      { base with faults := { base.faults with counters := base.faults.counters.set 4 ⟨127, true⟩ } }
      (fun t => (t.bus.readData, t.faults.counters.get 4)) = some (some 0x00FF, ⟨0, false⟩) := by rfl

/-- R41: 262,144 is $40000. -/
theorem test_ctxCursorLoRead :
    leaves .ctxCursorLoRead (base.setContext 0 0 { openAt 262144 with state := .ended })
      (fun t => (t.bus.readData, t.window.ctxHold)) = some (some 0, 4) := by rfl

/-- R160. -/
theorem test_hostCursorLoRead :
    leaves .hostCursorLoRead (hostAt .opened 65537) (fun t => (t.bus.readData, t.window.hostHold, t.window.ctxHold)) =
      some (some 1, 1, 0) := by rfl

/-- Section 12.1, step 4: $1FF6 clears every latch. -/
theorem test_intStatusWrite :
    leaves (.intStatusWrite 0x1FF6)
      { base with interrupts := ⟨true, true, Bank.fill 4 true, Bank.fill 4 true, true, 0x1FFF⟩ }
      (fun t => (t.interrupts, t.int)) =
      some (⟨false, false, Bank.fill 4 false, Bank.fill 4 false, false, 0x1FFF⟩, false) := by rfl

/-- R19: the upper half holds flags 16..31. -/
theorem test_markFlagsWrite :
    leaves (.markFlagsWrite true 0x8001) { base with marks := 0xFFFFFFFF } (fun t => t.marks) = some 0x7FFEFFFF := by rfl

/-- R179. -/
theorem test_alertWrite :
    leaves (.alertWrite 0xFFFE) { base with faults := { base.faults with alert := true } } (fun t => t.alertPin) =
      some true := by rfl

/-- R39: 17 is ignored. -/
theorem test_ctxSelectWrite :
    leaves (.ctxSelectWrite 16) base (fun t => t.window.ctxSelect) = some 16 ∧
    leaves (.ctxSelectWrite 17) base (fun t => t.window.ctxSelect) = some 0 := by constructor <;> rfl

/-- R165: a field of 3 stores class 2, and reads 2. -/
theorem test_classMapWrite :
    leaves (.classMapWrite false 0xC003) base (fun t => t.readRegister (.classMap false)) = some 0x8002 := by rfl

/-- R184. -/
theorem test_returnLimitSelect :
    leaves (.returnLimitSelect 0x0006) base (fun t => t.window.returnLimitSelect) = some 2 := by rfl

/-- R136: DRAIN_LIMIT has 12 bits. -/
theorem test_registerWrite :
    leaves (.registerWrite 0x1A 0xF123) base (fun t => t.readRegister .drainLimit) = some 0x0123 := by rfl

/-- R62 through log entry 5: the microsecond in which the timer runs out. -/
theorem test_empty_queue :
    (match step (onPort { listening with burst := some ⟨.header [], true, false⟩, rxTimer := some 1 }) with
     | .next t => some (t.port 0).burst
     | .fault _ => none
     | .refused _ => none) = some none := by rfl

/-- No row of the opcode table gives bits. -/
theorem test_decode (nbits w : Nat) : decodeTableWord nbits w = none := rfl

/-! ### Witnesses: states and operands that meet the hypotheses of an obligation

A theorem `witness_<name>` is about the obligation of that name; its parts are the clauses of it, in their order, at
boundary values where a clause has a range. -/

theorem witness_StepRunsFrontCommand :
    ({ base with pending := [.arbiterGrant, .hostOpen] } : State).pending = Instr.arbiterGrant :: [.hostOpen] := rfl

def timed (rx drain : Option Nat) : State :=
  { onPort { listening with rxTimer := rx } with retire := { base.retire with timer := drain } }

theorem witness_EmptyQueueStepIsOneMicrosecond :
    (({ base with inReset := true } : State).pending = [] ∧ ({ base with inReset := true } : State).inReset = true) ∧
    ((timed (some 2) (some 2)).inReset = false ∧
      (∀ (p : Port) (n : Nat), ((timed (some 2) (some 2)).port p).rxTimer = some n → 2 ≤ n) ∧
      ∀ n : Nat, (timed (some 2) (some 2)).retire.timer = some n → 2 ≤ n) ∧
    ((∀ p : Port, ((timed none (some 1)).port p).rxTimer = none) ∧ (timed none (some 1)).retire.timer = some 1) ∧
    (((timed (some 1) none).port 0).rxTimer = some 1 ∧
      (∀ q : Port, q ≠ 0 → ((timed (some 1) none).port q).rxTimer = none) ∧ (timed (some 1) none).retire.timer = none) := by
  refine ⟨⟨rfl, rfl⟩, ⟨rfl, ?_, ?_⟩, by decide, by decide⟩
  · intro p n h
    have : ∀ p : Port, ((timed (some 2) (some 2)).port p).rxTimer = none ∨
        ((timed (some 2) (some 2)).port p).rxTimer = some 2 := by decide
    rcases this p with h' | h' <;> rw [h'] at h <;> cases h
    exact Nat.le_refl 2
  · intro n h
    cases h
    exact Nat.le_refl 2

theorem witness_ResetInputHoldsThePartAtPowerOnValues :
    (∃ t : State, exec (.powerOnReset true) base = .next t) ∧
    ({ base with inReset := true } : State).inReset = true ∧ ∀ asserted : Bool, Instr.lineUp 0 ≠ .powerOnReset asserted :=
  ⟨⟨_, rfl⟩, rfl, fun _ h => by cases h⟩

theorem witness_SoftResetResult :
    (BusFree base ∧ BitVec.getLsbD (0x0100 : Word) 8 = true ∧ ∀ p : Port, base.arbiter.granting ≠ some (.port p)) ∧
    BusFree (granting base .read 0) ∧ (granting base .read 0).arbiter.granting = some (.port 0) ∧
      ∃ t : State, exec .grantPerformed (granting base .read 0) = .next t :=
  ⟨⟨busFree_of_idle rfl rfl rfl, by decide, by decide⟩, busFree_of_idle rfl rfl rfl, rfl, ⟨_, rfl⟩⟩

theorem witness_ControlWriteEnablesAndDisablesPorts :
    BusFree (onPort listening) ∧ BitVec.getLsbD (0x00FF : Word) 8 = false ∧ BitVec.getLsbD (0x0008 : Word) 8 = false ∧
    ∀ (p : Port) (t : Stream), ((onPort listening).port p).enabled = true → BitVec.getLsbD (0x0008 : Word) p.val = false →
      ((onPort listening).context p t).state ≠ .retiring :=
  ⟨busFree_of_idle rfl rfl rfl, by decide, by decide, by decide⟩

theorem witness_LineUpAndLineDownResults :
    (∀ x ∈ ([.off, .waitSync, .listening, .turnWait, .responding] : List LinkState),
      Operating (onPort { listening with link := x }) ∧ ((onPort { listening with link := x }).port 0).link = x ∧
        (onPort { listening with link := x }).retire.aborted ≤ 255) ∧
    (∀ t : Stream, ((onPort listening).context 0 t).state ≠ .retiring) ∧
    (let s := draining { listening with queue := [item .stop 0 0, { item .write 0 1 with state := .receiving 0 }] } none
     Operating s ∧ s.retire.aborted ≤ 255 ∧ (s.port 0).link = .listening ∧ (s.context 0 0).state = .retiring) := by
  refine ⟨fun _ _ => ⟨operating_of_idle rfl rfl, rfl, ?_⟩, by decide, operating_draining _ _ (by decide), ?_, rfl, rfl⟩
  · exact Nat.zero_le _
  · exact Nat.zero_le _

theorem witness_BurstStartOpensABurst :
    (Operating base ∧ (base.port 0).link ≠ .listening) ∧
    (Operating (onPort listening) ∧ ((onPort listening).port 0).link = .listening ∧
      ((onPort listening).port 0).burst = none) ∧
    Operating (inBurst (.header [])) ∧ ((inBurst (.header [])).port 0).burst ≠ none ∧
      ∃ t : State, exec (.burstEnd 0) (inBurst (.header [])) = .next t :=
  ⟨⟨operating_of_idle rfl rfl, by decide⟩, ⟨operating_of_idle rfl rfl, by decide⟩, operating_of_idle rfl rfl, by decide,
    ⟨_, rfl⟩⟩

theorem witness_BurstEndClosesTheBurst :
    (Operating base ∧ (base.port 0).link ≠ .listening) ∧
    (∀ x ∈ ([.header [], .discard, .header [1], .take 0x000100A1 0 0 0xFFFF, .check 0x000100A1 none 0,
        .skip 0x000100A1 1] : List Position),
      Operating (inBurst x) ∧ ((inBurst x).port 0).link = .listening ∧
        ((inBurst x).port 0).burst = some ⟨x, false, false⟩ ∧
        ∀ i ∈ ((inBurst x).port 0).queue, i.isReceiving = false) :=
  ⟨⟨operating_of_idle rfl rfl, by decide⟩, fun _ _ => ⟨operating_of_idle rfl rfl, rfl, rfl, fun _ h => by cases h⟩⟩

theorem witness_CodeViolationAndTimeoutEndTheBurst :
    (Operating base ∧ (base.port 0).burst = none ∧ (base.port 0).rxTimer = none) ∧
    (∀ x ∈ ([.discard, .header []] : List Position),
      Operating (inBurst x) ∧ ((inBurst x).port 0).link = .listening ∧
        ((inBurst x).port 0).burst = some ⟨x, false, false⟩) ∧
    (let s := onPort { listening with burst := some ⟨.header [], true, true⟩, rxTimer := some 0 }
     Operating s ∧ (s.port 0).rxTimer = some 0 ∧ (s.port 0).burst = some ⟨.header [], true, true⟩) :=
  ⟨⟨operating_of_idle rfl rfl, rfl, rfl⟩, fun _ _ => ⟨operating_of_idle rfl rfl, rfl, rfl⟩,
    ⟨operating_of_idle rfl rfl, rfl, rfl⟩⟩

theorem witness_BytesOfAnOpenBurst :
    (Operating base ∧ (base.port 0).burst = none) ∧
    (∀ x ∈ ([.discard, .header [1, 2, 3], .skip 0x000100A1 (0 + 1), .skip 0x000100A1 (1 + 1),
        .check 0x000100A1 none 0, .take 0x000100A2 1 0 0, .take 0x000100A1 0 0 0] : List Position),
      Operating (inBurst x) ∧ ((inBurst x).port 0).link = .listening ∧
        ((inBurst x).port 0).burst = some ⟨x, false, false⟩) ∧
    (([1, 2, 3] : List Byte).length < 4 ∧ headerType 0x000100A2 ≠ 0xA1 ∧ (0 : Nat) % 2 = 0) ∧
    (let i : WorkItem := { item .write 0 1 with state := .receiving 0 }
     let s := onPort { listening with
       burst := some ⟨.take (packet 0xA1 0 1) 1 7 0, false, false⟩, queue := [item .stop 0 0] ++ [i] }
     Operating s ∧ headerType (packet 0xA1 0 1) = 0xA1 ∧ 1 % 2 = 1 ∧ (s.port 0).queue = [item .stop 0 0] ++ [i] ∧
       (∀ j ∈ [item .stop 0 0], j.isReceiving = false) ∧ i.state = .receiving 0 ∧ i.slot = some 0) :=
  ⟨⟨operating_of_idle rfl rfl, rfl⟩, fun _ _ => ⟨operating_of_idle rfl rfl, rfl, rfl⟩, by decide,
    ⟨operating_of_idle rfl rfl, by decide⟩⟩

theorem witness_ChecksumCompared :
    let s := onPort { listening with
      burst := some ⟨.check (packet 0xA1 0 1) (some 0x01) 0xB001, false, false⟩
      queue := [] ++ [{ item .write 0 1 with state := .receiving 1 }] }
    let pad := inBurst (.check (packet 0xA2 0 1) (some 0x01) 0xB001)
    (Operating s ∧ (s.port 0).link = .listening ∧ headerType (packet 0xA1 0 1) = 0xA1 ∧
      (0xB0 : Byte) ++ (0x01 : Byte) = (0xB001 : Word) ∧
      (s.port 0).queue = [] ++ [{ item .write 0 1 with state := .receiving 1 }] ∧
      (0xB1 : Byte) ++ (0x01 : Byte) ≠ (0xB001 : Word)) ∧
    Operating pad ∧ (pad.port 0).link = .listening ∧ headerType (packet 0xA2 0 1) ≠ 0xA1 := by
  refine ⟨⟨operating_of_idle rfl rfl, rfl, ?_⟩, operating_of_idle rfl rfl, rfl, ?_⟩ <;> decide

theorem witness_HeaderCodeCorrectsOneFlipAndDetectsTwo :
    (BitVec.extractLsb' 0 7 (0x80 : Byte) ^^^ checkBits 0 = 0) ∧
    (BitVec.extractLsb' 0 7 (0xF0 : Byte) ^^^ checkBits 0 = 0x70) ∧
    (BitVec.extractLsb' 0 7 (0x40 : Byte) ^^^ checkBits 0 = BitVec.twoPow 7 6) ∧
    (let y := BitVec.extractLsb' 0 7 (0x0D : Byte) ^^^ checkBits 0
     y ≠ 0 ∧ y ∉ checkColumns ∧ ∀ k : Fin 7, y ≠ BitVec.twoPow 7 k.val) := by decide +kernel

theorem witness_CompletedHeaderJudged :
    (Operating (inBurst (.header [0x2F, 0x0C, 0, 0])) ∧
      ((inBurst (.header [0x2F, 0x0C, 0, 0])).port 0).link = .listening ∧
      ((inBurst (.header [0x2F, 0x0C, 0, 0])).port 0).burst = some ⟨.header [0x2F, 0x0C, 0, 0], false, false⟩) ∧
    judgeHeader ((0 : Byte) ++ (0 : Byte) ++ (0x0C : Byte) ++ (0x2F : Byte)) 0x45 = .clean 0x00000C2F ∧
    judgeHeader ((0 : Byte) ++ (0 : Byte) ++ (0x0C : Byte) ++ (0x2F : Byte)) 0x44 = .corrected 0x00000C2F ∧
    judgeHeader ((0 : Byte) ++ (0 : Byte) ++ (0x0C : Byte) ++ (0x2F : Byte)) 0x46 = .uncorrectable :=
  ⟨⟨operating_of_idle rfl rfl, rfl, rfl⟩, by decide +kernel, by decide +kernel, by decide +kernel⟩

/-- A header that goes past the first two checks of R58. -/
def passesFormat (d : HeaderBits) : Prop :=
  ¬ ((headerType d).getLsbD 7 = true ∧ ¬ (1 ≤ (headerParameter d).toNat ∧ (headerParameter d).toNat ≤ 1024)) ∧
    BitVec.extractLsb' 13 3 d = 0 ∧ headerType d ∈ ([0x00, 0x21, 0x22, 0x23, 0x24, 0x2F, 0xA1, 0xA2] : List Byte)

/-- The lengths 0 and 1025 of a long type; a tag bit 5, and a type no head sends; a port found SUSPENDED; a WRITE to a port
that is RUNNING, and to one that was found so and is SUSPENDED; and each type that is delivered, LIMIT at 1, 512, 0 and
513. -/
theorem witness_GoodHeaderDelivered :
    ((inBurst (.header [])).port 0).burst = some ⟨.header [], false, false⟩ ∧
    ((headerType 0x000000A1).getLsbD 7 = true ∧ (headerParameter 0x000000A1).toNat = 0) ∧
    ((headerType 0x040100A2).getLsbD 7 = true ∧ (headerParameter 0x040100A2).toNat = 1025) ∧
    (BitVec.extractLsb' 13 3 (0x00002000 : HeaderBits) ≠ 0 ∧
      headerType 0x00000025 ∉ ([0x00, 0x21, 0x22, 0x23, 0x24, 0x2F, 0xA1, 0xA2] : List Byte)) ∧
    (Mode.suspended = .suspended ∧ headerType 0x00000021 ≠ 0x2F ∧ ¬ (Mode.running = .suspended)) ∧
    (((inBurst (.header [])).port 0).mode = .running ∧ headerType 0x000100A1 = 0xA1) ∧
    (let s := onPort { listening with
       mode := .suspended, burst := some ⟨.header [], false, false⟩, queue := [item .stop 0 0] }
     (s.port 0).burst = some ⟨.header [], false, false⟩ ∧ (s.port 0).mode = .suspended ∧
       ∀ i ∈ (s.port 0).queue, i.isReceiving = false) ∧
    (passesFormat 0x00000000 ∧ passesFormat 0x00000021 ∧ passesFormat 0x00090322 ∧ passesFormat 0x04010023 ∧
      passesFormat 0x00010024 ∧ passesFormat 0x02000024 ∧ passesFormat 0x00000024 ∧ passesFormat 0x02010024 ∧
      passesFormat 0x0000002F ∧ passesFormat 0x000100A1 ∧ passesFormat 0x040000A2) := by
  unfold passesFormat
  and_intros <;> first | rfl | decide +kernel

/-- A RETIRING context; READ counts 0 and 1025; a full queue and two WRITE items; and room for a WRITE and a STOP. -/
theorem witness_WorkPacketArrival :
    (headerIsLong 0x000100A1 = decide (ItemKind.write = .write) ∧
      headerIsLong 0x00000023 = decide (ItemKind.read = .write) ∧
      headerIsLong 0x00000022 = decide (ItemKind.stop = .write)) ∧
    ((inBurst (.header [])).port 0).burst = some ⟨.header [], false, false⟩ ∧
    ((working [] ⟨.retiring, some stopCopy, false, 0, 0⟩).context 0 (headerStream 0x000100A1)).state = .retiring ∧
    ((headerParameter 0x00000023).toNat = 0 ∧ (headerParameter 0x04010023).toNat = 1025) ∧
    4 ≤ (List.replicate 4 (item .stop 0 0)).length ∧
    2 ≤ ((List.replicate 2 (item .write 0 1)).filter fun i => i.kind == .write).length ∧
    (∀ i ∈ [item .stop 0 0, item .write 0 1], i.kind = .write ↔ i.slot ≠ none) := by
  and_intros <;> first | rfl | decide

/-- Widths 1 and 1024, heights 1 and 256. -/
theorem witness_OffsetsNameDistinctCellsOfTheRectangle :
    (∀ g ∈ [(⟨0, 0, 9, 9, .columns, .loop, 0⟩ : Geometry), ⟨0, 1023, 10, 9, .rows, .stop, 256⟩],
      g.firstColumn.toNat ≤ g.lastColumn.toNat ∧ 0 < g.size) ∧
    262143 < (⟨0, 1023, 10, 9, .rows, .stop, 256⟩ : Geometry).size := by decide +kernel

theorem witness_CursorAdvancesByPolicy :
    ((openAt 2).copy = some stopCopy ∧ (openAt 2).cursor + 1 < stopCopy.geometry.size) ∧
    ((openAt 3).cursor + 1 = stopCopy.geometry.size ∧ stopCopy.geometry.policy = .stop ∧ (openAt 3).state = .opened) ∧
    (0 + 1 = loopCopy.geometry.size ∧ loopCopy.geometry.policy = .loop) ∧
    (⟨.retiring, some stopCopy, false, 3, 0⟩ : HeadContext).state = .retiring ∧
    (hostAt .opened 3).hostContext.copy = some stopCopy := by decide +kernel

theorem witness_EndedUnitsAreCountedOnce :
    ((working [item .stop 0 0] (openAt 0)).port 0).queue = item .stop 0 0 :: [] ∧
    ((working ([item .stop 0 0] ++ [{ item .write 0 1 with state := .receiving 0 }]) (openAt 0)).port 0).queue =
      [item .stop 0 0] ++ [{ item .write 0 1 with state := .receiving 0 }] ∧
    (let s := draining { listening with queue := [item .stop 0 0] } none
     BusFree s ∧ BitVec.getLsbD (0 : Word) 8 = false ∧ (s.port 0).enabled = true ∧ BitVec.getLsbD (0 : Word) 0 = false ∧
       (∀ q : Port, q ≠ 0 → (s.port q).enabled = BitVec.getLsbD (0 : Word) q.val) ∧ s.retire.phase = .draining ∧
       s.retire.aborted ≤ 255 ∧ ∃ t : State, exec (.portDisable 0) s = .next t) := by
  refine ⟨rfl, rfl, ⟨operating_draining _ _ (by decide), rfl⟩, ?_, rfl, ?_, ?_, rfl, ?_, ?_⟩
  · decide
  · decide
  · decide
  · decide
  · rw [exec_portDisable, busCommand_next rfl rfl]
    exact ⟨_, rfl⟩

theorem base_slot_bound : base.slot 0 0 ≠ none := by decide

theorem base_slot_free : base.slot 0 3 = none := by decide

theorem base_not_retiring : ∀ (p : Port) (t : Stream), (base.context p t).state ≠ .retiring := by decide

theorem witness_StartLoadsOrResumes :
    (let s := working [item .start 0 2] (openAt 1)
     Operating s ∧ (s.port 0).link = .listening ∧ (s.port 0).queue = item .start 0 2 :: [] ∧
       (item .start 0 2).kind = .start ∧ (item .start 0 2).state = .ready ∧ (2 : Word) ≠ 0 ∧ (2 : Word) ≠ 1) ∧
    (base.slot 0 3 = none ∧ (item .start 3 1).stream = 3) ∧
    (base.slot 0 2 = some ⟨31, ⟨false, true⟩⟩ ∧
      (⟨false && (base.aperture 31).rights.read, true && (base.aperture 31).rights.write⟩ : Rights) = ⟨false, false⟩) ∧
    (base.slot 0 0 = some ⟨1, ⟨true, true⟩⟩ ∧
      (⟨true && (base.aperture 1).rights.read, true && (base.aperture 1).rights.write⟩ : Rights) ≠ ⟨false, false⟩) ∧
    (((working [] (openAt 1)).context 0 0).state = .opened ∧
      ((working [] (openAt 1)).context 0 0).copy = some stopCopy ∧ stopCopy.aperture = 1 ∧
      stopCopy.generation = (base.aperture 1).generation) ∧
    ((working [] HeadContext.reset).context 0 0).state = .empty :=
  ⟨⟨operating_of_idle rfl rfl, rfl, rfl, by decide⟩, by decide, by decide, by decide, by decide, rfl⟩

def contextStates : List HeadContext :=
  [HeadContext.reset, openAt 1, ⟨.ended, some stopCopy, false, 4, 0⟩, ⟨.retiring, some stopCopy, false, 1, 0⟩,
    ⟨.retiring, some stopCopy, true, 4, 0⟩, ⟨.retired, some stopCopy, false, 0, 0⟩]

theorem witness_StopEmptiesTheContext :
    (∀ c ∈ contextStates,
      let s := working [item .stop 0 0] c
      Operating s ∧ (s.port 0).link = .listening ∧ (s.port 0).queue = item .stop 0 0 :: [] ∧ s.context 0 0 = c ∧
        s.slot 0 0 ≠ none) ∧
    ((item .stop 0 0).kind = .stop ∧ (item .stop 0 0).state = .ready) ∧
    (contextStates.map fun c => c.state) = [.empty, .opened, .ended, .retiring, .retiring, .retired] ∧
    base.slot 0 3 = none :=
  ⟨fun _ _ => ⟨operating_of_idle rfl rfl, rfl, rfl, rfl, base_slot_bound⟩, by decide, by decide, base_slot_free⟩

theorem witness_ReadJoinsTheReturnQueue :
    (∀ c ∈ contextStates,
      let s := working [item .read 0 1] c
      Operating s ∧ (s.port 0).link = .listening ∧ (s.port 0).queue = item .read 0 1 :: [] ∧ s.context 0 0 = c ∧
        s.slot 0 0 ≠ none ∧ (s.port 0).mode = .running ∧ (s.port 0).returns.length < 4) ∧
    ((item .read 0 1).kind = .read ∧ (item .read 0 1).state = .ready ∧ base.slot 0 3 = none) ∧
    ((openAt 1).copy = some stopCopy ∧ stopCopy.granted.read = true ∧
      ({ stopCopy with granted := ⟨false, true⟩ } : Copy).granted.read = false) ∧
    ((onPort { listening with mode := .suspended }).port 0).mode = .suspended ∧
    4 ≤ ((onPort { listening with returns := List.replicate 4 ⟨0, 1, 0⟩ }).port 0).returns.length := by
  refine ⟨fun _ _ => ⟨operating_of_idle rfl rfl, rfl, rfl, rfl, base_slot_bound, rfl, Nat.zero_lt_succ 3⟩, ?_, ?_, rfl, ?_⟩ <;>
    decide

theorem witness_WriteBeginsItsCommit :
    (∀ c ∈ contextStates,
      let s := working [item .write 0 1] c
      Operating s ∧ (s.port 0).link = .listening ∧ (s.port 0).queue = item .write 0 1 :: [] ∧ s.context 0 0 = c ∧
        s.slot 0 0 ≠ none ∧ s.request 0 = none) ∧
    ((item .write 0 1).kind = .write ∧ (item .write 0 1).state = .ready ∧ (item .write 0 1).slot = some 0 ∧
      (item .write 0 1).parameter ≠ 0 ∧ base.slot 0 3 = none) ∧
    ((openAt 3).copy = some stopCopy ∧ stopCopy.granted.write = true ∧ (openAt 3).cursor < stopCopy.geometry.size ∧
      ({ stopCopy with granted := ⟨true, false⟩ } : Copy).granted.write = false) ∧
    (granting (working [item .write 0 1] (openAt 3)) .read 0).request 0 ≠ none := by
  refine ⟨fun _ _ => ⟨operating_of_idle rfl rfl, rfl, rfl, rfl, base_slot_bound, rfl⟩, ?_, ?_, ?_⟩ <;> decide

/-- Every request outstanding, and none; and P0 granted while P3, the last in the cyclic order, waits. -/
theorem witness_ArbiterGrantsInCyclicOrder :
    let some' : Option Request := some ⟨.read, 0, 0, none, 0, 0, false, true, true⟩
    let all : State := { base with arbiter := ⟨.port 3, none, Bank.fill 4 some', some'⟩ }
    (Operating base ∧ base.arbiter.granting = none ∧ (∀ p : Port, (base.request p).isSome = false) ∧
      base.arbiter.hostRequest.isSome = false) ∧
    (Operating (granting base .read 0) ∧ (granting base .read 0).arbiter.granting ≠ none) ∧
    (Operating all ∧ all.arbiter.granting = none ∧ all.arbiter.hostRequest.isSome = true ∧
      ∀ q' : Fin 5, (Source.host.number.val + 4 - all.arbiter.pointer.number.val) % 5 ≤
        (q'.val + 4 - all.arbiter.pointer.number.val) % 5) ∧
    ∃ t : State, exec .arbiterGrant all = .next t ∧ t.arbiter.granting = some .host ∧
      (Source.host : Source) ≠ .port 3 ∧ (all.request 3).isSome = true := by
  refine ⟨⟨operating_of_idle rfl rfl, rfl, ?_, rfl⟩, ⟨operating_of_idle rfl rfl, ?_⟩,
    ⟨operating_of_idle rfl rfl, rfl, rfl, ?_⟩, _, rfl, rfl, ?_, rfl⟩ <;> decide

theorem storeCanonical_of_nil {s : State} (h : s.store = []) : StoreCanonical s := by
  simp [StoreCanonical, Memory.wf, h]

theorem witness_PortWriteGrantStoresOneCell :
    let s := granting (working [{ item .write 0 1 with state := .committing 0 true false false }] (openAt 1)) (.write 7) 0
    Operating s ∧ StoreCanonical s ∧ s.arbiter.granting = some (.port 0) ∧ ∃ r, s.request 0 = some r ∧ r.access = .write 7 :=
  ⟨operating_of_idle rfl rfl, storeCanonical_of_nil rfl, rfl, _, rfl, rfl⟩

/-- One cell of one; the last cell of a STOP copy with one cell more; and a cell in the middle of the copy. An item that is
leaving. -/
theorem witness_CommitGoesOnByGrants :
    (∀ n ∈ ([1, 2] : List Word), ∀ cursor ∈ [1, 3],
      let i : WorkItem := { item .write 0 n with state := .committing 0 true false false }
      let s := granting (working [i] (openAt cursor)) (.write 7) 0
      Operating s ∧ s.arbiter.granting = some (.port 0) ∧ (s.port 0).queue = i :: [] ∧
        i.state = .committing 0 true false false ∧ i.slot = some 0 ∧
        ∃ r, s.request 0 = some r ∧ r.access = .write 7 ∧ r.stream = some i.stream) ∧
    ((1 : Word).toNat ≤ 0 + 1 ∧ 0 + 1 < (2 : Word).toNat) ∧
    ((openAt 3).advance.copy = some stopCopy ∧ stopCopy.geometry.policy = .stop ∧
      stopCopy.geometry.size ≤ (openAt 3).advance.cursor) ∧
    ((openAt 1).advance.copy = some stopCopy ∧ (openAt 1).advance.cursor < stopCopy.geometry.size) ∧
    (let i : WorkItem := { item .write 0 1 with state := .committing 0 true true false }
     let s := granting (working [i] (openAt 1)) (.write 7) 0
     Operating s ∧ (s.port 0).queue = i :: [] ∧ (∃ r, s.request 0 = some r ∧ r.access = .write 7) ∧
       (∀ x ∈ ([] : List WorkItem), x.state = .ready ∨ ∃ n : Nat, x.state = .receiving n) ∧
       ∃ t : State, exec .grantPerformed s = .next t) := by
  refine ⟨fun n _ cursor _ => ⟨operating_of_idle rfl rfl, rfl, rfl, rfl, rfl, _, rfl, rfl, rfl⟩, ?_, ?_, ?_,
    operating_of_idle rfl rfl, rfl, ⟨_, rfl, rfl⟩, ?_, ?_⟩
  · decide
  · decide
  · decide
  · intro x h
    cases h
  · rw [exec_grantPerformed, operate_next rfl]
    exact ⟨_, rfl⟩

/-- The read being granted is wanted: no RETURN; one with its last cell to come; and one with more to come. -/
theorem witness_ReadGrantPlacesACell :
    (∀ queue ∈ ([[], [item .stop 0 0]] : List (List WorkItem)),
      let s := granting (working queue (openAt 1)) .read 0
      Operating s ∧ s.arbiter.granting = some (.port 0) ∧ (s.port 0).queue = queue ∧
        (s.port 0).builder.current = none ∧ ∃ r, s.request 0 = some r ∧ r.access = .read ∧ r.stream = some 0) ∧
    ((item .stop 0 0).state = .ready) ∧
    (∀ n ∈ [1, 2],
      let s := (granting (working [] (openAt 1)) .read 0).setPort 0
        (responding ⟨.returns, some ⟨0, n, 0, [], false⟩, true, none⟩)
      Operating s ∧ s.arbiter.granting = some (.port 0) ∧ (s.port 0).builder.current = some ⟨0, n, 0, [], false⟩ ∧
        (s.port 0).queue = [] ∧ s.context 0 0 = openAt 1 ∧
        ∃ r, s.request 0 = some r ∧ r.access = .read ∧ r.stream = some 0 ∧ r.wanted = true) ∧
    ((openAt 1).advance.copy = some stopCopy ∧ (openAt 1).advance.cursor < stopCopy.geometry.size) := by
  refine ⟨fun _ _ => ⟨operating_of_idle rfl rfl, rfl, rfl, rfl, _, rfl, rfl, rfl⟩, rfl,
    fun _ _ => ⟨operating_of_idle rfl rfl, rfl, rfl, rfl, rfl, _, rfl, rfl, rfl, rfl⟩, ?_⟩
  decide

/-- The read being granted is no longer wanted: a commit waits, with no cell to write, with one to write, or at the end of
the STOP copy; a RETURN that is zero-filled, one that has all its cells, and one that waits, with a cell left to read and
with none. -/
theorem witness_ReadGrantPlacesACell_cut :
    let late (s : State) : State := s.setRequest 0 ((s.request 0).map fun r => { r with wanted := false })
    (∀ n ∈ ([0, 1] : List Word), ∀ cursor ∈ [1, 3],
      let i : WorkItem := { item .write 0 n with state := .committing 0 false false false }
      let s := late (granting (working [i] (openAt cursor)) .read 0)
      Operating s ∧ s.arbiter.granting = some (.port 0) ∧ (s.port 0).builder.current = none ∧
        (s.port 0).queue = i :: [] ∧ i.state = .committing 0 false false false ∧ i.slot = some 0 ∧
        s.context 0 0 = openAt cursor ∧
        ∃ r, s.request 0 = some r ∧ r.access = .read ∧ r.stream = some 0 ∧ r.wanted = false) ∧
    ((0 : Word).toNat ≤ 0 ∧ 0 < (1 : Word).toNat) ∧
    (∀ x ∈ ([⟨0, 1, 0, [0], true⟩, ⟨0, 1, 0, [0], false⟩, ⟨0, 1, 0, [], false⟩] : List CurrentReturn), ∀ cursor ∈ [1, 3],
      let s := late ((granting (working [] (openAt cursor)) .read 0).setPort 0
        (responding ⟨.returns, some x, true, none⟩))
      Operating s ∧ s.arbiter.granting = some (.port 0) ∧ (s.port 0).builder.current = some x ∧
        (s.port 0).queue = [] ∧ s.context 0 0 = openAt cursor ∧
        ∃ r, s.request 0 = some r ∧ r.access = .read ∧ r.stream = some 0 ∧ r.wanted = false) ∧
    ((openAt 1).advance.copy = some stopCopy ∧ (openAt 1).advance.cursor < stopCopy.geometry.size ∧
      (openAt 3).advance.copy = some stopCopy ∧ stopCopy.geometry.policy = .stop ∧
      stopCopy.geometry.size ≤ (openAt 3).advance.cursor) := by
  refine ⟨fun _ _ _ _ => ⟨operating_of_idle rfl rfl, rfl, rfl, rfl, rfl, rfl, rfl, _, rfl, rfl, rfl, rfl⟩, ?_,
    fun _ _ _ _ => ⟨operating_of_idle rfl rfl, rfl, rfl, rfl, rfl, _, rfl, rfl, rfl, rfl⟩, ?_⟩
  · decide
  · decide

theorem witness_ResponseStartsAndReturnsPhaseEnds :
    (Operating base ∧ (base.port 0).link ≠ .turnWait ∧ (base.port 0).builder.phase ≠ .returns) ∧
    (let s := onPort { listening with link := .turnWait }
     Operating s ∧ (s.port 0).link = .turnWait ∧ (s.port 0).queue = [] ∧
       (s.port 0).builder = ⟨.idle, none, false, none⟩) ∧
    (let s := onPort (responding ⟨.returns, none, false, none⟩)
     (s.port 0).builder.phase = .returns ∧ (s.port 0).builder.current = none ∧ (s.port 0).returns = []) :=
  ⟨⟨operating_of_idle rfl rfl, by decide, by decide⟩, ⟨operating_of_idle rfl rfl, rfl, rfl, rfl⟩, rfl, rfl, rfl⟩

/-- Counts 1 and 1024 and return limits 1 and 512, under the STOP copy with one cell left; TRUNCATED (11) and
APERTURE_END (9) in their default classes, or in class 2. -/
theorem witness_TakenEntryIsDroppedOrServed :
    (let s := onPort (responding ⟨.returns, none, false, none⟩)
     Operating s ∧ (s.port 0).builder.phase = .returns ∧ (s.port 0).builder.current = none ∧ (s.port 0).returns = []) ∧
    (∀ c ∈ contextStates, ∀ count ∈ [1, 1024], ∀ limit ∈ [1, 512], ∀ t ∈ ([0, 3] : List Stream), ∀ kind : Fin 16,
      ∀ class' : FaultClass,
      let s0 := (onPort { responding ⟨.returns, none, false, none⟩ with
        returns := [⟨t, count, 0⟩], returnLimit := limit }).setContext 0 0 c
      let s := { s0 with faults := { s0.faults with classMap := (Bank.fill 16 .class1).set kind class' } }
      Operating s ∧ (s.port 0).builder.phase = .returns ∧ (s.port 0).builder.current = none ∧
        (s.port 0).mode = .running ∧ (s.port 0).returns = ⟨t, count, 0⟩ :: [] ∧ s.context 0 0 = c ∧
        (s.port 0).returnLimit = limit ∧ s.slot 0 0 ≠ none ∧ s.slot 0 3 = none) ∧
    ((openAt 3).copy = some stopCopy ∧ stopCopy.granted.read = true ∧ (openAt 3).cursor < stopCopy.geometry.size ∧
      ({ stopCopy with granted := ⟨false, true⟩ } : Copy).granted.read = false) ∧
    (∀ kind ∈ ([9, 11] : List (Fin 16)),
      ((Bank.fill 16 FaultClass.class1).set kind .class2).get kind = .class2 ∧
        ((Bank.fill 16 FaultClass.class1).set kind .class1).get kind ≠ .class2) := by
  refine ⟨⟨operating_of_idle rfl rfl, rfl, rfl, rfl⟩, fun _ _ _ _ _ _ _ _ _ _ =>
    ⟨operating_of_idle rfl rfl, rfl, rfl, rfl, rfl, rfl, rfl, base_slot_bound, base_slot_free⟩, ?_, ?_⟩ <;> decide

theorem witness_ReturnEndsWithItsChecksum :
    (Operating base ∧ (base.port 0).builder.current = none) ∧
    (∀ cells ∈ ([[], [7]] : List (List Word)),
      let s := onPort (responding ⟨.returns, some ⟨0, 1, 0, cells, false⟩, true, none⟩)
      Operating s ∧ (s.port 0).builder.current = some ⟨0, 1, 0, cells, false⟩) ∧
    (([] : List Word).length < 1 ∧ 1 ≤ ([7] : List Word).length) :=
  ⟨⟨operating_of_idle rfl rfl, rfl⟩, fun _ _ => ⟨operating_of_idle rfl rfl, rfl⟩, by decide⟩

theorem witness_ReportAckAndEndSymbolAreSent :
    (∀ phase ∈ ([.returns, .report, .closing] : List Phase), ∀ flags ∈ ([0, 0x8000] : List (BitVec 16)),
      let s := onPort (responding ⟨phase, none, false, some flags⟩)
      Operating s ∧ (s.port 0).builder.phase = phase ∧ (s.port 0).builder.snapshot = some flags ∧
        (s.port 0).builder.packetSent = false ∧ (s.port 0).builder.current = none) ∧
    (0x8000 : BitVec 16) ≠ 0 ∧ Phase.returns ≠ .report ∧ Phase.returns ≠ .closing :=
  ⟨fun _ _ _ _ => ⟨operating_of_idle rfl rfl, rfl, rfl, rfl, rfl⟩, by decide⟩

/-- Chapter 11, Staging a definition; and the fields of a RETIRE at their largest. -/
theorem witness_StagedArgumentFieldsAreReadAsPacked :
    (let a := (arguments 0x1710 0x6000 0x2BFF 0x0008).command.args
     a.get 0 = (0x17 : BitVec 8) ++ (0x10 : BitVec 8) ∧
     a.get 1 = BitVec.ofBool (BitVec.getLsbD (5 : BitVec 6) 5) ++ BitVec.ofBool true ++ BitVec.ofBool true ++
       BitVec.ofBool false ++ BitVec.ofBool false ++ (0 : BitVec 11) ∧
     a.get 2 = BitVec.extractLsb' 0 5 (5 : BitVec 6) ++ (0x3FF : BitVec 11) ∧
     a.get 3 = (0 : BitVec 5) ++ (8 : BitVec 11)) ∧
    (let a := (arguments 0xFFFF 0xFFFF 0 0).command.args
     a.get 0 = (3 : BitVec 2) ++ (63 : BitVec 6) ++ (1 : BitVec 1) ++ (7 : BitVec 3) ++ (1 : BitVec 1) ++ (7 : BitVec 3) ∧
     a.get 1 = (0x3FFF : BitVec 14) ++ BitVec.ofBool true ++ BitVec.ofBool true ∧
     a.get 1 = (0x7F : BitVec 7) ++ BitVec.ofBool true ++ (0x1F : BitVec 5) ++ (7 : BitVec 3)) := by
  and_intros <;> rfl

theorem ready_arguments (a0 a1 a2 a3 : Word) : CommandReady (arguments a0 a1 a2 a3) := ready_of_idle rfl rfl rfl rfl

/-- Index 32; columns 1024, and 1 before 0; no rights; a mark one above the line count and one at it; index 31. Then an
entry in use by a slot and by the host context, and one that is not. -/
theorem witness_DefineAndClearApertureResults :
    (∀ a : Bank 4 Word, CommandReady (arguments (a.get 0) (a.get 1) (a.get 2) (a.get 3))) ∧
    (defineIndex (arguments 0 0x8000 0 0).command.args = 32 ∧
      defineIndex (arguments 0 0 0xF800 0).command.args = (31 : ApIndex).val) ∧
    (defineFirstColumn (arguments 0 0x0400 0 0).command.args = 1024 ∧
      defineLastColumn (arguments 0 0 0x0400 0).command.args = 1024 ∧
      defineLastColumn (arguments 0 0x0001 0 0).command.args < defineFirstColumn (arguments 0 0x0001 0 0).command.args) ∧
    defineRights (arguments 0 0 0 0).command.args = ⟨false, false⟩ ∧
    (defineRights (arguments 0 0x2000 0 2).command.args ≠ ⟨false, false⟩ ∧
      (defineGeometry (arguments 0 0x2000 0 2).command.args).lineCount <
        (defineGeometry (arguments 0 0x2000 0 2).command.args).mark.toNat ∧
      (defineGeometry (arguments 0 0x2000 0 1).command.args).mark.toNat ≤
        (defineGeometry (arguments 0 0x2000 0 1).command.args).lineCount) ∧
    (argIndex (arguments 0x2000 0 0 0).command.args = 32 ∧ argIndex (arguments 0x1F00 0 0 0).command.args = 31) ∧
    (base.slot 0 0 = some ⟨1, ⟨true, true⟩⟩ ∧ (hostAt .opened 0).hostContext.copy = some stopCopy ∧
      ∀ (p : Port) (t : Stream), (base.slot p t).map (fun b => b.aperture) ≠ some 0) := by
  refine ⟨fun _ => ready_arguments _ _ _ _, ?_, ?_, ?_, ?_, ?_, ?_⟩
  all_goals and_intros
  all_goals decide +kernel

/-- Port 4, stream 4 and index 32; then port 3, stream 3: a FREE entry, an occupied slot, rights the entry does not give,
and rights it gives. -/
theorem witness_BindResult :
    (∀ a : Bank 4 Word, CommandReady (arguments (a.get 0) (a.get 1) (a.get 2) (a.get 3))) ∧
    (argPort (arguments 0x0004 0 0 0).command.args = 4 ∧ argStream (arguments 0x0040 0 0 0).command.args = 4 ∧
      argIndex (arguments 0x2000 0 0 0).command.args = 32) ∧
    (argPort (arguments 0x1F33 2 0 0).command.args = (3 : Port).val ∧
      argStream (arguments 0x1F33 2 0 0).command.args = (3 : Stream).val ∧
      argIndex (arguments 0x1F33 2 0 0).command.args = (31 : ApIndex).val ∧
      argRights (arguments 0x1F33 2 0 0).command.args = ⟨false, true⟩) ∧
    ((base.aperture 0).isDefined = false ∧ (base.aperture 31).isDefined = true ∧
      (base.aperture 31).rights = ⟨true, false⟩ ∧ base.slot 3 3 = none ∧ base.slot 0 0 ≠ none) := by
  refine ⟨fun _ => ready_arguments _ _ _ _, ?_, ?_, ?_⟩
  all_goals and_intros
  all_goals decide

theorem witness_UnbindResult :
    (∀ a : Bank 4 Word, CommandReady (arguments (a.get 0) (a.get 1) (a.get 2) (a.get 3))) ∧
    (argPort (arguments 0x0004 0 0 0).command.args = 4 ∧ argStream (arguments 0x0040 0 0 0).command.args = 4 ∧
      argPort base.command.args = (0 : Port).val ∧ argStream base.command.args = (0 : Stream).val) ∧
    ((∀ c ∈ contextStates, CommandReady ((base.setContext 0 0 c)) ∧ (base.setContext 0 0 c).context 0 0 = c ∧
      (base.setContext 0 0 c).slot 0 0 ≠ none) ∧ base.slot 3 3 = none) :=
  ⟨fun _ => ready_arguments _ _ _ _, by decide, fun _ _ => ⟨ready_of_idle rfl rfl rfl rfl, rfl, base_slot_bound⟩, by decide⟩

theorem witness_SuspendAndResumePortResults :
    (∀ mode ∈ ([.running, .suspended] : List Mode), ∀ x ∈ ([.header [], .take 0x000100A1 1 7 0, .check 0x000100A1 none 0,
        .check 0x000100A1 (some 1) 0, .skip 0x000100A1 1, .discard] : List Position),
      let s := onPort { listening with
        mode := mode
        burst := some ⟨x, false, false⟩
        queue := [{ item .write 0 1 with state := .receiving 0 }] }
      CommandReady s ∧ s.retire.phase = .idle ∧ (s.port 0).mode = mode ∧ argPort s.command.args = (0 : Port).val ∧
        ∀ (p : Port) (t : Stream), (s.context p t).state ≠ .retiring) ∧
    argPort (arguments 0x0004 0 0 0).command.args = 4 :=
  ⟨fun _ _ _ _ => ⟨ready_of_idle rfl rfl rfl rfl, rfl, rfl, rfl, base_not_retiring⟩, by decide⟩

theorem witness_ResetPortResult :
    (∀ x ∈ [PortState.reset, listening, responding ⟨.returns, some ⟨0, 1, 0, [], false⟩, true, none⟩],
      CommandReady (onPort x) ∧ (onPort x).retire.phase = .idle ∧ (onPort x).port 0 = x ∧
        argPort (onPort x).command.args = (0 : Port).val ∧
        ∀ (p : Port) (t : Stream), ((onPort x).context p t).state ≠ .retiring) ∧
    argPort (arguments 0x0004 0 0 0).command.args = 4 ∧ PortState.reset.enabled = false ∧ listening.enabled = true :=
  ⟨fun _ _ => ⟨ready_of_idle rfl rfl rfl rfl, rfl, rfl, rfl, base_not_retiring⟩, by decide⟩

theorem witness_HostOpenAndCloseResults :
    (∀ a : Bank 4 Word, CommandReady (arguments (a.get 0) (a.get 1) (a.get 2) (a.get 3))) ∧
    argIndex (arguments 0x2000 0 0 0).command.args = 32 ∧
    argIndex (arguments 0x1F00 0 0 0).command.args = (31 : ApIndex).val ∧ (base.aperture 31).isDefined = true ∧
    argIndex base.command.args = (0 : ApIndex).val ∧ (base.aperture 0).isDefined = false :=
  ⟨fun _ => ready_arguments _ _ _ _, by decide⟩

theorem witness_BadCommandAndCollisionResults :
    (CommandReady base ∧
      (0x0010 : Word) ∉ ([0x0011, 0x0012, 0x0021, 0x0022, 0x0031, 0x0041, 0x0042, 0x0043, 0x0051, 0x0052] : List Word)) ∧
    (let s := draining { listening with queue := [item .stop 0 0] } none
     BusFree s ∧ s.command.busy = true) :=
  ⟨⟨ready_of_idle rfl rfl rfl rfl, by decide⟩, ⟨operating_draining _ _ (by decide), rfl⟩, rfl⟩

/-- Scopes 4, 0, 1, 2 and 3, each target in range and one above it; and a RETIRE of port 3, which has no live context. -/
theorem witness_RetireChecksItsScope :
    argScope (arguments 0 4 0 0).command.args = 4 ∧ argScope (arguments 0 0 0 0).command.args = 0 ∧
    (argScope (arguments 4 1 0 0).command.args = 1 ∧ argPort (arguments 4 1 0 0).command.args = 4 ∧
      argPort (arguments 3 1 0 0).command.args = (3 : Port).val) ∧
    (argScope (arguments 0x2000 2 0 0).command.args = 2 ∧ argIndex (arguments 0x2000 2 0 0).command.args = 32 ∧
      argIndex (arguments 0x1F00 2 0 0).command.args = (31 : ApIndex).val) ∧
    (argScope (arguments 0x40 3 0 0).command.args = 3 ∧ argStream (arguments 0x40 3 0 0).command.args = 4 ∧
      argStream (arguments 0x33 3 0 0).command.args = (3 : Stream).val ∧
      argPort (arguments 0x33 3 0 0).command.args = (3 : Port).val) ∧
    CommandReady (arguments 0 4 0 0) ∧ retireScope (arguments 0 4 0 0).command.args = .error .badScope ∧
    CommandReady (arguments 3 1 0 0) ∧ retireScope (arguments 3 1 0 0).command.args = .ok (.port 3) ∧
    (∀ (p : Port) (t : Stream), ¬ (((arguments 3 1 0 0).context p t).state = .opened ∨
      ((arguments 3 1 0 0).context p t).state = .ended)) ∧ (arguments 3 1 0 0).hostContext.state = .closed :=
  ⟨by decide, by decide, by decide, by decide, by decide, ready_arguments _ _ _ _, rfl, ready_arguments _ _ _ _, rfl,
    by decide, rfl⟩

/-- A RETIRE of scope ALL over one OPEN context with two items of its own, an ENDED host context, and DRAIN as given. -/
def retiring (drain : Word) : State :=
  let s := working [item .write 0 1, item .stop 0 0] (openAt 2)
  { s with
    command := { s.command with args := (Bank.fill 4 0).set 1 drain }
    hostContext := ⟨.ended, some stopCopy, 4, 0⟩ }

/-- An abort of a port's work queue; and an abort of a port that is sending a RETURN of the stream, with a return entry
of it behind. -/
theorem witness_RetireAbortResult :
    let sending : State :=
      { (onPort { responding ⟨.returns, some ⟨0, 2, 0x000200B1, [5], false⟩, true, none⟩ with
          returns := [⟨0, 1, 0x00010023⟩] }).setContext 0 0 (openAt 2) with
        command := (retiring 0).command }
    (∀ s ∈ [retiring 0, sending],
      CommandReady s ∧ s.retire.phase = .idle ∧ (∀ (p : Port) (t : Stream), (s.context p t).state ≠ .retiring) ∧
      QueuesBounded s ∧ retireScope s.command.args = .ok .all ∧ argDrain s.command.args = false ∧
      (s.context 0 0).state = .opened ∧ s.faults.classMap.get 12 ≠ .class2 ∧
      ∃ t : State, exec .retireAbort s = .next t) ∧
    ((retiring 0).port 0).builder.current = none ∧
    (sending.port 0).builder.current = some ⟨0, 2, 0x000200B1, [5], false⟩ := by
  refine ⟨fun s h => ?_, rfl, rfl⟩
  simp only [List.mem_cons, List.not_mem_nil, or_false] at h
  rcases h with rfl | rfl <;>
    refine ⟨ready_of_idle rfl rfl rfl rfl, rfl, by decide, ?_, rfl, rfl, rfl, by decide, ?_⟩
  · unfold QueuesBounded PortQueuesBounded
    decide
  · rw [exec_retireAbort, busCommand_next rfl rfl]
    exact ⟨_, rfl⟩
  · unfold QueuesBounded PortQueuesBounded
    decide
  · rw [exec_retireAbort, busCommand_next rfl rfl]
    exact ⟨_, rfl⟩

/-- A drain with two units left, and one with no unit. -/
theorem witness_RetireDrainBeginsTheDrain :
    let empty : State := (retiring 0x0100).setPort 0 listening
    (∀ s ∈ [retiring 0x0100, empty],
      CommandReady s ∧ s.retire.phase = .idle ∧ (∀ (p : Port) (t : Stream), (s.context p t).state ≠ .retiring) ∧
      retireScope s.command.args = .ok .all ∧ argDrain s.command.args = true ∧
      s.faults.classMap.get 12 ≠ .class2 ∧ (s.context 0 0).state = .opened ∧
      Scope.all.coversHead 0 0 (s.context 0 0).copy = true) ∧
    (retiring 0x0100).inFlight 0 0 ≠ 0 ∧ ∀ (p : Port) (u : Stream), empty.inFlight p u = 0 := by
  refine ⟨fun s h => ?_, by decide, by decide⟩
  simp only [List.mem_cons, List.not_mem_nil, or_false] at h
  rcases h with rfl | rfl <;>
    exact ⟨ready_of_idle rfl rfl rfl rfl, rfl, by decide, rfl, rfl, by decide, rfl, rfl⟩

theorem witness_DrainEndsWithItsLastUnit :
    base.retire.phase = .idle ∧
    (let s := draining { listening with queue := [item .stop 0 0] } none
     s.retire.phase = .draining ∧ (s.context 0 0).state = .retiring ∧ s.inFlight 0 0 ≠ 0) ∧
    ((draining listening none).retire.phase = .draining ∧
      ∀ (p : Port) (t : Stream), ((draining listening none).context p t).state = .retiring →
        (draining listening none).inFlight p t = 0) := by
  refine ⟨rfl, ⟨rfl, rfl, ?_⟩, rfl, ?_⟩ <;> decide

theorem witness_DrainTimerExpiryForcesTheRetirement :
    let r : CurrentReturn := ⟨0, 2, 0x000200B1, [5], false⟩
    let s := draining (responding ⟨.returns, some r, true, none⟩) (some 0)
    Operating s ∧ s.retire.phase = .draining ∧ s.retire.timer = some 0 ∧ s.retire.aborted ≤ 255 ∧
      (s.port 0).builder.current = some r ∧ r.zeroFilled = false ∧ (s.context 0 r.stream).state = .retiring ∧
      (s.port 1).builder.current = none ∧ s.faults.classMap.get 12 ≠ .class2 ∧
      ∃ t : State, exec .drainTimerExpiry s = .next t := by
  refine ⟨operating_draining _ _ (by decide), rfl, rfl, by decide, rfl, rfl, rfl, rfl, by decide, ?_⟩
  rw [exec_drainTimerExpiry, operate_next rfl]
  exact ⟨_, rfl⟩

/-- The four states of the host context, a right missing, and a request of the host being granted. -/
theorem witness_HostDataAccessResult :
    (∀ x ∈ ([.closed, .opened, .ended, .retired] : List HostState),
      BusFree (hostAt x 3) ∧ (hostAt x 3).hostContext.state = x ∧ (hostAt x 3).hostContext.copy = some stopCopy) ∧
    (stopCopy.granted.read = true ∧ stopCopy.granted.write = true ∧
      ({ stopCopy with granted := ⟨false, false⟩ } : Copy).granted.read = false) ∧
    (∀ access ∈ ([.read, .write 7] : List Access),
      let s : State := { hostAt .opened 3 with
        arbiter := ⟨.host, some .host, Bank.fill 4 none, some ⟨access, 0, 5, none, 1, 1, false, true, true⟩⟩ }
      Operating s ∧ s.arbiter.granting = some .host ∧
        s.arbiter.hostRequest = some ⟨access, 0, 5, none, 1, 1, false, true, true⟩ ∧ s.bus.held = []) :=
  ⟨fun _ _ => ⟨busFree_of_idle rfl rfl rfl, rfl, rfl⟩, by decide, fun _ _ => ⟨operating_of_idle rfl rfl, rfl, rfl, rfl⟩⟩

/-- Two cycles held behind a read, all taken; and two of which the first posts a request of its own. -/
theorem witness_CyclesBehindAHostDataRequestAreHeld :
    let s (c d : BusCycle) : State := { hostAt .opened 1 with
      arbiter := ⟨.host, some .host, Bank.fill 4 none, some ⟨.read, 0, 5, none, 1, 1, false, true, true⟩⟩
      bus := ⟨[c, d], none⟩ }
    (∀ c d : BusCycle, (s c d).inReset = false ∧ (s c d).arbiter.hostRequest ≠ none ∧ Operating (s c d) ∧
      (s c d).arbiter.granting = some .host ∧ (s c d).bus.held = [c] ++ d :: [] ∧ (s c d).bus.held = [] ++ c :: [d]) ∧
    (let access : State := { s (.write (.arg 3) 9) (.read .cmdStatus false) with
       arbiter := ⟨.host, none, Bank.fill 4 none, none⟩
       hostContext := (hostAt .opened 1).hostContext.advance }
     (access.takeCycle (.write (.arg 3) 9)).arbiter.hostRequest = none) ∧
    (let access : State := { s (.write .hostData 9) (.read .hostData true) with
       arbiter := ⟨.host, none, Bank.fill 4 none, none⟩
       hostContext := (hostAt .opened 1).hostContext.advance }
     (access.takeCycle (.write .hostData 9)).arbiter.hostRequest ≠ none) ∧
    (base.inReset = false ∧ base.arbiter.hostRequest = none) :=
  ⟨fun _ _ => ⟨rfl, Option.some_ne_none _, operating_of_idle rfl rfl, rfl, rfl, rfl⟩, rfl, by decide, rfl, rfl⟩

theorem witness_RaisedFaultFlagsAndSuspends :
    let classed (x : PortState) : State :=
      { onPort x with faults := { base.faults with classMap := base.faults.classMap.set 3 .class2 } }
    (base.faults.classMap.get FaultKind.format.number ≠ .class2 ∧
      ((onPort { listening with mode := .suspended }).port 0).mode = .suspended) ∧
    ((classed listening).faults.classMap.get FaultKind.format.number = .class2 ∧
      ((classed listening).port 0).mode = .running ∧
      ∀ i ∈ ((classed listening).port 0).queue, i.isReceiving = false) ∧
    (let i : WorkItem := { item .write 0 1 with state := .receiving 0 }
     let s := classed { listening with queue := [item .stop 0 0] ++ [i] }
     s.faults.classMap.get FaultKind.format.number = .class2 ∧ (s.port 0).mode = .running ∧
       (s.port 0).queue = [item .stop 0 0] ++ [i] ∧ (∀ j ∈ [item .stop 0 0], j.isReceiving = false) ∧
       i.isReceiving = true) := by
  and_intros
  all_goals first | rfl | decide

theorem witness_AccessesWithASideEffect :
    BusFree base ∧ base.window.ctxSelect.val = 4 * (0 : Port).val + (0 : Stream).val ∧
    BusFree { base with window := { base.window with ctxSelect := 15 } } ∧
    (15 : Fin 17).val = 4 * (3 : Port).val + (3 : Stream).val ∧
    BusFree { base with window := { base.window with ctxSelect := 16 } } ∧
    (∀ offset ∈ ([0x00, 0x10, 0x40, 0x4C, 0x50, 0x54, 0x5C, 0x60, 0xFF] : List (BitVec 8)),
      (offset &&& 0xFE) ∉ ([0x42, 0x44, 0x46, 0x48, 0x4A, 0x52, 0x5A, 0x5E] : List (BitVec 8))) :=
  ⟨busFree_of_idle rfl rfl rfl, by decide, busFree_of_idle rfl rfl rfl, by decide, busFree_of_idle rfl rfl rfl,
    by decide⟩

/-- CTX_SELECT 16 and 17, and the offsets beside the rows that store. -/
theorem witness_RegisterWritesStoreOrClear :
    BusFree base ∧ ((0xFFF0 : Word) &&& 0x001F).toNat = (16 : Fin 17).val ∧ 17 ≤ ((0xFFF1 : Word) &&& 0x001F).toNat ∧
    ∀ offset ∈ ([0x00, 0x01, 0x04, 0x10, 0x19, 0x32, 0x64, 0x79 + 1, 0xFF] : List (BitVec 8)),
      (offset &&& 0xFE) ∉ ([0x02, 0x06, 0x08, 0x0A, 0x0C, 0x0E, 0x1A, 0x1C, 0x1E, 0x20, 0x22, 0x24, 0x26, 0x28, 0x2A,
        0x2C, 0x2E, 0x30, 0x40, 0x4C, 0x5A, 0x62, 0x78] : List (BitVec 8)) :=
  ⟨busFree_of_idle rfl rfl rfl, by decide, by decide, by decide⟩

/-- The reset state, a fault record with every part and one with none, and both kinds of selection. -/
theorem witness_OutputsFollowTheState :
    base.inReset = false ∧ base.faults.queue = [] ∧
    (∀ c ∈ ([⟨.format, .port 1, some 2, some ⟨31, 262144⟩, some ⟨0x23, 0x00010023⟩⟩,
        ⟨.suspended, .host, none, none, none⟩] : List Claim),
      ({ base with faults := { base.faults with queue := [⟨c, 255⟩] } } : State).faults.queue = ⟨c, 255⟩ :: []) ∧
    (∀ q : Source, (base.faults.counters.get q.number).count ≤ 127) ∧
    (base.port base.window.returnLimitSelect).returnLimit ≤ 512 ∧ 0x7A ≤ (0x7A : BitVec 8).toNat ∧
    base.window.ctxSelect.val = 4 * (0 : Port).val + (0 : Stream).val ∧ base.inFlight 0 0 ≤ 4 ∧
    base.slot 0 0 = some ⟨1, ⟨true, true⟩⟩ ∧ base.slot 0 3 = none ∧
    ({ base with window := { base.window with ctxSelect := 16 } } : State).window.ctxSelect.val = 16 := by
  refine ⟨rfl, rfl, fun _ _ => rfl, fun q => ?_, ?_⟩
  · cases q with
    | host => decide
    | port p => revert p; decide
  · decide

/-- The base state with one command waiting. -/
def stepping : State := { base with pending := [.portEnable 0x000F] }

theorem witness_StoreCanonicalKeptByEveryStep : StoreCanonical stepping ∧ ∃ t : State, step stepping = .next t :=
  ⟨storeCanonical_of_nil rfl, _, rfl⟩

theorem witness_FaultQueueKeptByEveryStep : FaultQueueKept stepping ∧ ∃ t : State, step stepping = .next t :=
  ⟨by unfold FaultQueueKept; decide, _, rfl⟩

theorem witness_BindingsNameDefinedKeptByEveryStep :
    BindingsNameDefined stepping ∧ ∃ t : State, step stepping = .next t := by
  refine ⟨fun p t b h => ?_, _, rfl⟩
  have : ∀ (p : Port) (t : Stream), stepping.slot p t = none ∨ stepping.slot p t = some ⟨1, ⟨true, true⟩⟩ ∨
      stepping.slot p t = some ⟨2, ⟨true, true⟩⟩ ∨ stepping.slot p t = some ⟨31, ⟨false, true⟩⟩ := by decide
  rcases this p t with h' | h' | h' | h' <;> rw [h'] at h <;> cases h <;> decide

theorem witness_ContextsKeptByEveryStep : ContextsKept stepping ∧ ∃ t : State, step stepping = .next t := by
  refine ⟨⟨fun p t => ?_, rfl, rfl⟩, _, rfl⟩
  have : ∀ (p : Port) (t : Stream), stepping.context p t = ⟨.empty, none, false, 0, 0⟩ := by decide
  rw [this p t]
  exact ⟨fun _ => rfl, fun h => absurd rfl h⟩

theorem witness_PortsKeptByEveryStep : PortsKept stepping ∧ ∃ t : State, step stepping = .next t := by
  refine ⟨⟨?_, ?_⟩, _, rfl⟩
  · unfold QueuesBounded PortQueuesBounded
    decide
  · unfold PortKept
    decide

theorem witness_RetireEngineKeptByEveryStep : RetireEngineKept stepping ∧ ∃ t : State, step stepping = .next t :=
  ⟨⟨by decide, by decide, fun h => absurd h (by decide), by decide, by decide⟩, _, rfl⟩

end Sys2Proof.Tests
end

/-! PROOFS. What one command can be, said once, and the invariants that speak of the band store, the aperture table and
the binding slots alone. -/

namespace Sys2Proof.Machine

/-! ### What a command is -/

/-- Every command is POWER_ON_RESET, the end of a grant, an event that leaves the part `State.kept` as it was, or a host
bus cycle. -/
theorem exec_cases (c : Instr) :
    (∃ asserted, c = .powerOnReset asserted ∧ ∀ s, exec c s = .next (s.driveReset asserted)) ∨
      (∀ s, exec c s = operate s State.performGrant) ∨
      (∃ effect : State → State, (∀ s, (effect s).kept = s.kept) ∧ ∀ s, exec c s = operate s effect) ∨
      ∃ cycle, ∀ s, exec c s = busCommand s cycle := by
  cases c with
  | powerOnReset asserted => exact .inl ⟨asserted, rfl, exec_powerOnReset asserted⟩
  | grantPerformed => exact .inr (.inl exec_grantPerformed)
  | lineUp p => exact .inr (.inr (.inl ⟨_, fun s => s.takeLineUp_kept p, exec_lineUp p⟩))
  | lineDown p => exact .inr (.inr (.inl ⟨_, fun s => s.takeLineDown_kept p, exec_lineDown p⟩))
  | burstStart p => exact .inr (.inr (.inl ⟨_, fun s => s.takeBurstStart_kept p, exec_burstStart p⟩))
  | byte p b => exact .inr (.inr (.inl ⟨_, fun s => s.takeByte_kept p b, exec_byte p b⟩))
  | burstEnd p => exact .inr (.inr (.inl ⟨_, fun s => s.takeBurstEnd_kept p, exec_burstEnd p⟩))
  | codeViolation p => exact .inr (.inr (.inl ⟨_, fun s => s.takeCodeViolation_kept p, exec_codeViolation p⟩))
  | receiveTimeout p => exact .inr (.inr (.inl ⟨_, fun s => s.expireReceive_kept p, exec_receiveTimeout p⟩))
  | startItem p => exact .inr (.inr (.inl ⟨_, fun s => s.executeStart_kept p, exec_startItem p⟩))
  | stopItem p => exact .inr (.inr (.inl ⟨_, fun s => s.executeStop_kept p, exec_stopItem p⟩))
  | readItem p => exact .inr (.inr (.inl ⟨_, fun s => s.executeRead_kept p, exec_readItem p⟩))
  | writeItem p => exact .inr (.inr (.inl ⟨_, fun s => s.executeWrite_kept p, exec_writeItem p⟩))
  | arbiterGrant => exact .inr (.inr (.inl ⟨_, State.chooseGrant_kept, exec_arbiterGrant⟩))
  | responseStart p => exact .inr (.inr (.inl ⟨_, fun s => s.startResponse_kept p, exec_responseStart p⟩))
  | returnEntryTake p => exact .inr (.inr (.inl ⟨_, fun s => s.takeEntry_kept p, exec_returnEntryTake p⟩))
  | returnEnd p => exact .inr (.inr (.inl ⟨_, fun s => s.endReturn_kept p, exec_returnEnd p⟩))
  | reportSent p => exact .inr (.inr (.inl ⟨_, fun s => s.sendReport_kept p, exec_reportSent p⟩))
  | ackSent p => exact .inr (.inr (.inl ⟨_, fun s => s.sendAck_kept p, exec_ackSent p⟩))
  | endSymbolSent p => exact .inr (.inr (.inl ⟨_, fun s => s.sendEnd_kept p, exec_endSymbolSent p⟩))
  | drainTimerExpiry => exact .inr (.inr (.inl ⟨_, State.expireDrain_kept, exec_drainTimerExpiry⟩))
  | _ => exact .inr (.inr (.inr ⟨_, fun _ => rfl⟩))

/-- One microsecond leaves what the link and engine events leave. -/
theorem State.tick_kept (s : State) : s.tick.kept = s.kept := by
  unfold State.tick
  split
  · rfl
  · rw [State.tickDrain_kept, foldl_kept State.tickReceive_kept]

/-! ### The band store, the aperture table and the binding slots -/

/-- The part of the state that only grants of writes, four commands and POWER_ON_RESET change. -/
structure Tables where
  powerOns : Nat
  store : List (Nat × Word)
  apertures : Bank 32 Aperture
  bindings : Bank 4 (Bank 4 (Option Binding))

/-- That part of a state. -/
def State.tables (s : State) : Tables := ⟨s.powerOns, s.store, s.apertures, s.bindings⟩

/-- The link and engine events leave it. -/
theorem State.tables_of_kept {s t : State} (h : t.kept = s.kept) : t.tables = s.tables :=
  congrArg (fun k : Kept => (⟨k.powerOns, k.store, k.apertures, k.bindings⟩ : Tables)) h

/-- A property of these tables that each of their changes keeps. -/
structure TableInvariant (P : State → Prop) : Prop where
  congr : ∀ {s t : State}, t.tables = s.tables → P s → P t
  writeCell : ∀ {s : State} (row : BitVec 8) (column : BitVec 10) (v : Word), P s → P (s.writeCell row column v)
  define : ∀ {s : State} (n : ApIndex), P s → P (s.define n)
  free : ∀ {s : State} {n : ApIndex}, s.isBound n = false → P s →
    P (s.setAperture n { s.aperture n with isDefined := false })
  bind : ∀ {s : State} (p : Port) (t : Stream) {b : Binding}, (s.aperture b.aperture).isDefined = true →
    b.rights.isEmpty = false → P s → P (s.setSlot p t (some b))
  unbind : ∀ {s : State} (p : Port) (t : Stream), P s → P (s.setSlot p t none)
  powerOn : ∀ {s : State}, P (s.driveReset true)

section
variable {P : State → Prop} (hP : TableInvariant P)
include hP

theorem TableInvariant.of_kept {s t : State} (h : t.kept = s.kept) (hs : P s) : P t :=
  hP.congr (State.tables_of_kept h) hs

theorem TableInvariant.performPort {s : State} (p : Port) (hs : P s) : P (s.performPort p) := by
  unfold State.performPort
  split
  · exact hP.of_kept s.endGrant_kept hs
  · next r _ =>
    have hr : P (s.releasePort p) := hP.of_kept (s.releasePort_kept p) hs
    dsimp only
    split
    · next v _ => exact hP.of_kept (by simp) (hP.writeCell r.row r.column v hr)
    · split <;> exact hP.of_kept (by simp) hr

theorem TableInvariant.finishGrant {s : State} (hs : P s) : P s.finishGrant := by
  unfold State.finishGrant
  split
  · next p _ => exact hP.of_kept (State.settleDrain_kept _) (hP.performPort p hs)
  · exact hs
  · exact hs

theorem TableInvariant.defineCommand {s : State} (hs : P s) : P s.defineCommand := by
  unfold State.defineCommand
  split
  · exact hP.of_kept (s.complete_kept _) hs
  · next n _ => exact hP.of_kept (State.complete_kept _ _) (hP.define n hs)

theorem TableInvariant.clearCommand {s : State} (hs : P s) : P s.clearCommand := by
  unfold State.clearCommand
  split
  · exact hP.of_kept (s.complete_kept _) hs
  · split
    · exact hP.of_kept (s.complete_kept _) hs
    · next h =>
      have hb := Bool.eq_false_iff.mpr fun hb => h (.inl hb)
      exact hP.of_kept (State.complete_kept _ _) (hP.free hb hs)

theorem TableInvariant.bindCommand {s : State} (hs : P s) : P s.bindCommand := by
  have refused (code : ResultCode) : P (s.complete code) := hP.of_kept (s.complete_kept code) hs
  unfold State.bindCommand
  split
  · next p t n _ _ _ =>
    split
    · exact refused _
    · next hd =>
      split
      · exact refused _
      · split
        · exact refused _
        · next hr =>
          have hd : (s.aperture n).isDefined = true := of_not_not hd
          have hr := Bool.eq_false_iff.mpr fun he => hr (.inl he)
          exact hP.of_kept (State.complete_kept _ _) (hP.bind p t hd hr hs)
  · exact refused _

theorem TableInvariant.unbindCommand {s : State} (hs : P s) : P s.unbindCommand := by
  have refused (code : ResultCode) : P (s.complete code) := hP.of_kept (s.complete_kept code) hs
  have emptied (p : Port) (t : Stream) : P ((s.unbindSlot p t).complete .done) :=
    hP.of_kept (State.complete_kept _ _) (hP.unbind p t (hP.of_kept (by simp) hs))
  unfold State.unbindCommand
  split
  · split
    · exact refused _
    · split
      · exact emptied _ _
      · exact refused _
      · exact refused _
      · exact refused _
      · exact emptied _ _
  · exact refused _

theorem TableInvariant.runCommand {s : State} (c : Option Command) (hs : P s) : P (s.runCommand c) := by
  cases c with
  | none => exact hP.of_kept (s.complete_kept _) hs
  | some c =>
    cases c with
    | defineAperture => exact hP.defineCommand hs
    | clearAperture => exact hP.clearCommand hs
    | bind => exact hP.bindCommand hs
    | unbind => exact hP.unbindCommand hs
    | retire => exact hP.of_kept s.retireCommand_kept hs
    | suspendPort =>
      simp only [State.runCommand, State.suspendCommand]
      split <;> exact hP.of_kept (by simp) hs
    | resumePort =>
      simp only [State.runCommand, State.resumeCommand]
      (repeat' split) <;> exact hP.of_kept (by simp) hs
    | resetPort =>
      simp only [State.runCommand, State.resetPortCommand]
      split <;> exact hP.of_kept (by simp) hs
    | hostOpen =>
      simp only [State.runCommand, State.hostOpenCommand]
      (repeat' split) <;> exact hP.of_kept (by simp) hs
    | hostClose => exact hP.congr (s := s) rfl hs

theorem TableInvariant.writeCmd {s : State} (v : Word) (hs : P s) : P (s.writeCmd v) := by
  unfold State.writeCmd
  split
  · exact hP.congr (s := s) rfl hs
  · exact hP.runCommand _ (hP.congr (s := s) rfl hs)

theorem TableInvariant.writeControl {s : State} (v : Word) (hs : P s) : P (s.writeControl v) := by
  unfold State.writeControl
  split
  · exact hP.congr (s := s.finishGrant) rfl (hP.finishGrant hs)
  · exact hP.of_kept (s.writeEnables_kept v) hs

theorem TableInvariant.postHost {s : State} (access : Access) (wanted : Bool) (hs : P s) :
    P (s.postHost access wanted) := by
  unfold State.postHost
  split
  · exact hs
  · exact hP.congr (s := s) rfl hs

theorem TableInvariant.writeCycle {s : State} (r : Register) (v : Word) (hs : P s) : P (s.writeCycle r v) := by
  cases r with
  | control => exact hP.writeControl v hs
  | cmd => exact hP.writeCmd v hs
  | hostData =>
    simp only [State.writeCycle, State.hostWrite]
    split
    · exact hP.of_kept (State.raise_kept _ _) hs
    · exact hP.postHost _ _ hs
  | ctxSelect =>
    simp only [State.writeCycle, State.writeCtxSelect]
    split
    · exact hP.congr (s := s) rfl hs
    · exact hs
  | _ => exact hP.congr (s := s) rfl hs

theorem TableInvariant.readCycle {s : State} (r : Register) (released : Bool) (hs : P s) :
    P (s.readCycle r released) := by
  cases r with
  | hostData =>
    simp only [State.readCycle, State.hostRead]
    split
    · exact hP.congr (s := s.raise _) rfl (hP.of_kept (State.raise_kept _ _) hs)
    · exact hP.postHost _ _ hs
  | ctxCursor hi => cases hi <;> exact hP.congr (s := s) rfl hs
  | hostCursor hi => cases hi <;> exact hP.congr (s := s) rfl hs
  | _ => exact hP.congr (s := s) rfl hs

theorem TableInvariant.takeCycle {s : State} (c : BusCycle) (hs : P s) : P (s.takeCycle c) := by
  cases c with
  | read r released => exact hP.of_kept (State.settleDrain_kept _) (hP.readCycle r released hs)
  | write r v => exact hP.of_kept (State.settleDrain_kept _) (hP.writeCycle r v hs)

theorem TableInvariant.takeHeldCycle {s : State} (c : BusCycle) (behind : List BusCycle) (hs : P s) :
    P (s.takeHeldCycle c behind) := by
  unfold State.takeHeldCycle
  split
  · exact hP.congr (s := s.takeCycle c) rfl (hP.takeCycle c hs)
  · exact hP.takeCycle c hs

theorem TableInvariant.takeHeld {s : State} (held : List BusCycle) (hs : P s) : P (s.takeHeld held) := by
  induction held generalizing s with
  | nil => exact hP.congr (s := s) rfl hs
  | cons c rest ih =>
    have hc := hP.takeHeldCycle c rest hs
    rw [State.takeHeld_cons]
    split
    · exact hP.congr (s := s.takeHeldCycle c rest) rfl hc
    · exact ih hc

theorem TableInvariant.advanceHost {s : State} (hs : P s) : P s.advanceHost := by
  unfold State.advanceHost
  split
  · exact hP.congr (s := s) rfl hs
  · exact hs

theorem TableInvariant.performHostAccess {s : State} (r : Request) (hs : P s) : P (s.performHostAccess r) := by
  have hr : P s.releaseHost := hP.congr (s := s) rfl hs
  unfold State.performHostAccess
  split
  · next v _ => exact hP.advanceHost (hP.of_kept (State.markFor_kept _ r) (hP.writeCell r.row r.column v hr))
  · split
    · exact hP.advanceHost (hP.congr (s := s) rfl hs)
    · exact hP.advanceHost hr

theorem TableInvariant.performGrant {s : State} (hs : P s) : P s.performGrant := by
  unfold State.performGrant
  split
  · exact hs
  · next p _ => exact hP.performPort p hs
  · unfold State.performHost
    split
    · exact hP.of_kept s.endGrant_kept hs
    · next r _ => exact hP.takeHeld _ (hP.performHostAccess r hs)

theorem TableInvariant.of_operate {s t : State} {effect : State → State} (hs : P s) (he : P (effect s))
    (h : operate s effect = .next t) : P t := by
  unfold operate at h
  split at h <;> cases h
  · exact hs
  · exact hP.of_kept (State.settleDrain_kept _) he

theorem TableInvariant.of_busCommand {s t : State} (c : BusCycle) (hs : P s) (h : busCommand s c = .next t) : P t := by
  unfold busCommand State.hostCycle at h
  (repeat' split at h) <;> cases h
  · exact hs
  · exact hP.congr (s := s) rfl hs
  · exact hP.takeCycle c hs

theorem TableInvariant.of_exec {s t : State} (c : Instr) (hs : P s) (h : exec c s = .next t) : P t := by
  obtain ⟨asserted, -, hc⟩ | hc | ⟨effect, hk, hc⟩ | ⟨cycle, hc⟩ := exec_cases c <;> rw [hc] at h
  · cases h
    cases asserted with
    | true => exact hP.powerOn
    | false => exact hP.congr (s := s) rfl hs
  · exact hP.of_operate hs (hP.performGrant hs) h
  · exact hP.of_operate hs (hP.of_kept (hk s) hs) h
  · exact hP.of_busCommand cycle hs h

/-- Every step keeps a table invariant. -/
theorem TableInvariant.of_step {s t : State} (hs : P s) (h : step s = .next t) : P t := by
  unfold step at h
  split at h
  · cases h; exact hP.of_kept s.tick_kept hs
  · next c rest _ => exact hP.of_exec (s := { s with pending := rest }) c (hP.congr (s := s) rfl hs) h

end

/-! ### The band store stays canonical; bindings name DEFINED entries -/

theorem storeCanonical_tableInvariant : TableInvariant StoreCanonical where
  congr {s t} h hs := by
    have h1 : t.powerOns = s.powerOns := congrArg Tables.powerOns h
    have h2 : t.store = s.store := congrArg Tables.store h
    unfold StoreCanonical
    rw [h1, h2]
    exact hs
  writeCell row column v hs := State.writeCell_canonical hs row column v
  define _ hs := hs
  free _ hs := hs
  bind _ _ _ _ _ hs := hs
  unbind _ _ hs := hs
  powerOn := ⟨List.Pairwise.nil, by simp [State.driveReset, State.reset], by simp [State.driveReset, State.reset]⟩

theorem State.define_aperture (s : State) (n m : ApIndex) :
    (s.define n).aperture m =
      if n = m then
        ⟨true, defineGeometry s.command.staged, defineRights s.command.staged, (s.aperture n).generation + 1⟩
      else s.aperture m := Bank.get_set _ _ _ _

/-- R15: an entry that is not bound is named by no slot. -/
theorem State.isBound_eq_false {s : State} {n : ApIndex} :
    s.isBound n = false ↔ ∀ (p : Port) (t : Stream) (b : Binding), s.slot p t = some b → b.aperture ≠ n := by
  simp only [State.isBound, List.any_eq_false]
  constructor
  · intro h p t b hb he
    exact h (p, t) (mem_allHeads p t) (by simp [hb, he])
  · intro h a _
    cases hb : s.slot a.1 a.2 with
    | none => simp
    | some b => simpa using h a.1 a.2 b hb

theorem State.driveReset_true_slot (s : State) (p : Port) (t : Stream) : (s.driveReset true).slot p t = none := by
  simp [State.driveReset, State.slot, State.reset]

theorem bindingsNameDefined_tableInvariant : TableInvariant BindingsNameDefined where
  congr {s t} h hs := by
    have h1 : t.apertures = s.apertures := congrArg Tables.apertures h
    have h2 : t.bindings = s.bindings := congrArg Tables.bindings h
    unfold BindingsNameDefined State.slot State.aperture
    rw [h1, h2]
    exact hs
  writeCell _ _ _ hs := hs
  define {s} n hs p t b hb := by
    obtain ⟨hd, hr⟩ := hs p t b hb
    refine ⟨?_, hr⟩
    rw [State.define_aperture]
    split
    · rfl
    · exact hd
  free {s n} hn hs p t b hb := by
    obtain ⟨hd, hr⟩ := hs p t b hb
    have hne := State.isBound_eq_false.mp hn p t b hb
    exact ⟨by rw [State.setAperture_aperture, if_neg (Ne.symm hne)]; exact hd, hr⟩
  bind {s} p t b hd hr hs q u b' hb := by
    rw [State.setSlot_slot] at hb
    split at hb
    · cases hb; exact ⟨hd, hr⟩
    · exact hs q u b' hb
  unbind {s} p t hs q u b hb := by
    rw [State.setSlot_slot] at hb
    split at hb
    · cases hb
    · exact hs q u b hb
  powerOn {s} p t b hb := by
    rw [State.driveReset_true_slot] at hb
    cases hb

/-- Settles O54: the canonical form is a table invariant. -/
theorem storeCanonicalKeptByEveryStep : Obligations.StoreCanonicalKeptByEveryStep :=
  fun _ _ hs h => storeCanonical_tableInvariant.of_step hs h

/-- Settles O56: that every binding names a DEFINED entry with a right is a table invariant. -/
theorem bindingsNameDefinedKeptByEveryStep : Obligations.BindingsNameDefinedKeptByEveryStep :=
  fun _ _ hs h => bindingsNameDefined_tableInvariant.of_step hs h

end Sys2Proof.Machine

/-! PROOFS. The state after power-on reset, and the RESET input (R1, R181). -/

namespace Sys2Proof.Machine

/-! ### The state after power-on reset -/

@[simp] theorem State.reset_slot (p : Port) (t : Stream) : State.reset.slot p t = none := by
  simp [State.reset, State.slot]

@[simp] theorem State.reset_context (p : Port) (t : Stream) : State.reset.context p t = HeadContext.reset := by
  simp [State.reset, State.context]

@[simp] theorem State.reset_port (p : Port) : State.reset.port p = PortState.reset := by
  simp [State.reset, State.port]

@[simp] theorem State.reset_aperture (n : ApIndex) : State.reset.aperture n = Aperture.reset := by
  simp [State.reset, State.aperture]

@[simp] theorem State.reset_counter (k : Fin 5) : State.reset.faults.counters.get k = ⟨0, false⟩ := by
  simp [State.reset, FaultUnit.reset]

@[simp] theorem State.reset_inFlight (p : Port) (t : Stream) : State.reset.inFlight p t = 0 := by
  simp [State.inFlight, PortState.reset, Builder.idle]

/-- Settles O5: each place of a table reads what the table is filled with. -/
theorem powerOnValues : Obligations.PowerOnValues := by
  refine ⟨rfl, State.reset_aperture, rfl, fun p t => ⟨State.reset_slot p t, State.reset_context p t,
    State.reset_inFlight p t⟩, rfl, fun p => ?_, rfl, rfl, rfl, fun q => State.reset_counter q.number, rfl,
    by decide, by decide, by decide, rfl, rfl⟩
  rw [State.reset_port]
  exact ⟨rfl, rfl, rfl, rfl, rfl, rfl, rfl, rfl, rfl, rfl, rfl, rfl, rfl⟩

theorem PortState.reset_kept : PortKept PortState.reset := by
  simp [PortKept, PortState.reset, Builder.idle]

theorem PortState.reset_queuesBounded : PortQueuesBounded PortState.reset := by
  simp [PortQueuesBounded, PortState.reset]

/-- Settles O60: every table is empty, every port OFF and every context EMPTY. -/
theorem powerOnStateIsKept : Obligations.PowerOnStateIsKept := by
  have queue : State.reset.faults.queue = [] := rfl
  have phase : State.reset.retire.phase ≠ .draining := nofun
  refine ⟨⟨List.Pairwise.nil, nofun, nofun⟩, ?_, fun p t b hb => ?_, ⟨fun p t => ?_, rfl, rfl⟩,
    ⟨fun p => ?_, fun p => ?_⟩, ?_⟩
  · simp [FaultQueueKept, queue]
  · rw [State.reset_slot] at hb
    cases hb
  · rw [State.reset_context]
    exact ⟨fun _ => rfl, fun h => absurd rfl h⟩
  · rw [State.reset_port]
    exact PortState.reset_queuesBounded
  · rw [State.reset_port]
    exact PortState.reset_kept
  · refine ⟨⟨nofun, fun h => absurd h phase⟩, fun p t h => ?_, fun h => absurd h phase, Nat.zero_le _, Nat.zero_le _⟩
    rw [State.reset_context] at h
    cases h

/-! ### The RESET input -/

/-- R181: while RESET is asserted every command but POWER_ON_RESET changes nothing. -/
theorem exec_inReset {s : State} (h : s.inReset = true) {c : Instr}
    (hc : ∀ asserted : Bool, c ≠ .powerOnReset asserted) : exec c s = .next s := by
  obtain ⟨asserted, e, -⟩ | e | ⟨effect, -, e⟩ | ⟨cycle, e⟩ := exec_cases c
  · exact absurd e (hc asserted)
  · rw [e, operate_inReset h]
  · rw [e, operate_inReset h]
  · rw [e, busCommand_inReset h]

/-- R1: with no cell listed every cell holds its power-on value. -/
theorem State.cell_of_store_nil {s : State} (h : s.store = []) (row : BitVec 8) (column : BitVec 10) :
    s.cell row column = Config.powerOnCell s.powerOns (cellAddress row column) := by
  rw [State.cell, h]
  rfl

/-- Settles O4: the reset of every block, and the commands of a part held in reset. -/
theorem resetInputHoldsThePartAtPowerOnValues : Obligations.ResetInputHoldsThePartAtPowerOnValues := by
  refine ⟨fun s => ⟨rfl, rfl, fun t row column h => ?_⟩, fun c s h => ⟨exec_inReset h, ?_, ?_, ?_⟩⟩
  · cases h
    exact State.cell_of_store_nil rfl row column
  · simp [State.int, h]
  · simp [State.alertPin, h]
  · simp [State.wait, h]

end Sys2Proof.Machine

/-! PROOFS. The cells an aperture names (R8, R9, R17). -/

namespace Sys2Proof.Machine

/-! ### Offsets as row and column of a rectangle -/

theorem Geometry.width_pos (g : Geometry) : 0 < g.width := Nat.succ_pos _

theorem Geometry.height_pos (g : Geometry) : 0 < g.height := Nat.succ_pos _

theorem Geometry.height_le (g : Geometry) : g.height ≤ 256 := by
  have := (g.lastRow - g.firstRow).isLt
  unfold Geometry.height
  omega

theorem Geometry.width_le (g : Geometry) : g.width ≤ 1024 := by
  have := g.lastColumn.isLt
  unfold Geometry.width
  omega

/-- The column of the rectangle that offset `k` names, 0 for the first column. -/
def Geometry.columnIndex (g : Geometry) (k : Nat) : Nat :=
  match g.order with
  | .rows => k % g.width
  | .columns => k / g.height

/-- The row of the rectangle that offset `k` names, 0 for the first row. -/
def Geometry.rowIndex (g : Geometry) (k : Nat) : Nat :=
  match g.order with
  | .rows => k / g.width
  | .columns => k % g.height

theorem Geometry.rowAt_eq (g : Geometry) (k : Nat) :
    g.rowAt k = g.firstRow + BitVec.ofNat 8 (g.rowIndex k) := by
  unfold Geometry.rowAt Geometry.rowIndex
  cases g.order <;> rfl

theorem Geometry.columnAt_eq (g : Geometry) (k : Nat) :
    g.columnAt k = g.firstColumn + BitVec.ofNat 10 (g.columnIndex k) := by
  unfold Geometry.columnAt Geometry.columnIndex
  cases g.order <;> rfl

theorem Geometry.columnIndex_lt {g : Geometry} {k : Nat} (hk : k < g.size) : g.columnIndex k < g.width := by
  unfold Geometry.columnIndex
  split
  · exact Nat.mod_lt _ g.width_pos
  · exact Nat.div_lt_of_lt_mul (Nat.mul_comm g.width g.height ▸ hk)

theorem Geometry.rowIndex_lt {g : Geometry} {k : Nat} (hk : k < g.size) : g.rowIndex k < g.height := by
  unfold Geometry.rowIndex
  split
  · exact Nat.div_lt_of_lt_mul hk
  · exact Nat.mod_lt _ g.height_pos

/-- An offset is known by its row and column in the rectangle. -/
theorem Geometry.index_inj {g : Geometry} {k l : Nat} (hr : g.rowIndex k = g.rowIndex l)
    (hc : g.columnIndex k = g.columnIndex l) : k = l := by
  unfold Geometry.rowIndex at hr
  unfold Geometry.columnIndex at hc
  cases ho : g.order <;> simp only [ho] at hr hc
  · rw [← Nat.div_add_mod k g.width, hr, hc, Nat.div_add_mod]
  · rw [← Nat.div_add_mod k g.height, hr, hc, Nat.div_add_mod]

theorem Geometry.rowAt_toNat (g : Geometry) (k : Nat) :
    (g.rowAt k).toNat = (g.firstRow.toNat + g.rowIndex k) % 256 := by
  simp [Geometry.rowAt_eq]

theorem Geometry.rowAt_sub_firstRow {g : Geometry} {k : Nat} (hk : k < g.size) :
    (g.rowAt k - g.firstRow).toNat = g.rowIndex k := by
  have h1 := Geometry.rowIndex_lt hk
  have h2 := g.height_le
  rw [Geometry.rowAt_eq, BitVec.add_comm, BitVec.add_sub_cancel, BitVec.toNat_ofNat]
  exact Nat.mod_eq_of_lt (by omega)

/-- R9: the columns of a walk do not wrap. -/
theorem Geometry.columnAt_toNat {g : Geometry} (hg : g.firstColumn.toNat ≤ g.lastColumn.toNat) {k : Nat}
    (hk : k < g.size) : (g.columnAt k).toNat = g.firstColumn.toNat + g.columnIndex k := by
  have h1 := Geometry.columnIndex_lt hk
  have h2 := g.lastColumn.isLt
  unfold Geometry.width at h1
  rw [Geometry.columnAt_eq, BitVec.toNat_add, BitVec.toNat_ofNat]
  omega

/-- R9: distinct offsets name distinct cells. -/
theorem Geometry.cellAt_inj {g : Geometry} (hg : g.firstColumn.toNat ≤ g.lastColumn.toNat) {k l : Nat}
    (hk : k < g.size) (hl : l < g.size) (hr : g.rowAt k = g.rowAt l) (hc : g.columnAt k = g.columnAt l) : k = l := by
  refine Geometry.index_inj (g := g) ?_ ?_
  · rw [← Geometry.rowAt_sub_firstRow hk, hr, Geometry.rowAt_sub_firstRow hl]
  · have h := congrArg BitVec.toNat hc
    rw [Geometry.columnAt_toNat hg hk, Geometry.columnAt_toNat hg hl] at h
    omega

/-- R17: the marking cell. -/
theorem Geometry.isMarking_iff (g : Geometry) (k : Nat) :
    g.isMarking k = true ↔ g.mark ≠ 0 ∧ k + 1 = g.mark.toNat * g.lineLength := by
  simp [Geometry.isMarking, BitVec.toNat_eq]

/-- Settles O18: an offset is known by its row and column in the rectangle, and these name the cell. -/
theorem offsetsNameDistinctCellsOfTheRectangle : Obligations.OffsetsNameDistinctCellsOfTheRectangle := by
  intro g hg width height
  refine ⟨rfl, Nat.mul_le_mul g.width_le g.height_le, fun k hk => ?_, fun k l => Geometry.cellAt_inj hg,
    g.isMarking_iff⟩
  have hrow := g.rowAt_toNat k
  have hcolumn := Geometry.columnAt_toNat hg hk
  have hwidth : g.columnIndex k < g.lastColumn.toNat - g.firstColumn.toNat + 1 := Geometry.columnIndex_lt hk
  refine ⟨fun ho => ?_, fun ho => ?_, by omega, by omega, ?_⟩
  · simp only [Geometry.rowIndex, Geometry.columnIndex, ho] at hrow hcolumn
    exact ⟨hrow, hcolumn⟩
  · simp only [Geometry.rowIndex, Geometry.columnIndex, ho] at hrow hcolumn
    exact ⟨hrow, hcolumn⟩
  · rw [Geometry.rowAt_sub_firstRow hk]
    exact Geometry.rowIndex_lt hk

end Sys2Proof.Machine

/-! PROOFS. The arbiter's choice (R4, R5). -/

namespace Sys2Proof.Machine

/-! ### The cyclic order -/

/-- How many places a requester stands behind the one after the pointer, in the cyclic order. -/
def placesAfter (pointer q : Source) : Nat := (q.number.val + 4 - pointer.number.val) % 5

theorem Source.number_inj {q q' : Source} (h : q.number.val = q'.number.val) : q = q' := by
  cases q with
  | port p =>
    cases q' with
    | port p' => exact congrArg Source.port (Fin.ext h)
    | host => exact absurd h (by simp [Source.number]; omega)
  | host =>
    cases q' with
    | port p' => exact absurd h (by simp [Source.number]; omega)
    | host => rfl

theorem mem_cyclicAfter (pointer q : Source) : q ∈ cyclicAfter pointer := by
  cases pointer with
  | port p =>
    cases q with
    | port r => revert p r; decide
    | host => revert p; decide
  | host =>
    cases q with
    | port r => revert r; decide
    | host => decide

/-- R4: the order in which the arbiter looks is the order of the places. -/
theorem cyclicAfter_sorted (pointer : Source) :
    (cyclicAfter pointer).Pairwise fun q q' => placesAfter pointer q < placesAfter pointer q' := by
  unfold placesAfter
  cases pointer with
  | port p => revert p; decide
  | host => decide

/-- R4: the requester granted has a request, and every other request stands further away. -/
theorem find_cyclicAfter_iff {requested : Source → Bool} {pointer q : Source} :
    (cyclicAfter pointer).find? requested = some q ↔
      requested q = true ∧ ∀ q', requested q' = true → q' ≠ q → placesAfter pointer q < placesAfter pointer q' := by
  have sorted := cyclicAfter_sorted pointer
  rw [List.find?_eq_some_iff_append]
  constructor
  · rintro ⟨hq, front, back, hl, hfront⟩
    refine ⟨hq, fun q' hq' hne => ?_⟩
    have hmem := mem_cyclicAfter pointer q'
    rw [hl] at sorted hmem
    rcases List.mem_append.mp hmem with h | h
    · exact absurd hq' (by simpa using hfront q' h)
    · exact (List.pairwise_cons.mp (List.pairwise_append.mp sorted).2.1).1 q' (List.mem_of_ne_of_mem hne h)
  · rintro ⟨hq, hmin⟩
    obtain ⟨front, back, hl⟩ := List.append_of_mem (mem_cyclicAfter pointer q)
    refine ⟨hq, front, back, hl, fun q' h => ?_⟩
    rw [hl] at sorted
    have hlt := (List.pairwise_append.mp sorted).2.2 q' h q (List.mem_cons_self)
    by_contra hr
    have := hmin q' (by simpa using hr) (by rintro rfl; exact absurd hlt (Nat.lt_irrefl _))
    omega

/-- R5: after a grant of a requester that stands nearer, a waiting one stands nearer than before. -/
theorem placesAfter_lt_of_lt {pointer q mine : Source} (h : placesAfter pointer q < placesAfter pointer mine) :
    placesAfter q mine < placesAfter pointer mine := by
  unfold placesAfter at *
  omega

/-! ### The choice -/

theorem Arbiter.choose_of_granting {a : Arbiter} {q : Source} (h : a.granting = some q) : a.choose = a := by
  simp [Arbiter.choose, h]

theorem Arbiter.choose_of_none {a : Arbiter} (h : ∀ q, a.hasRequest q = false) : a.choose = a := by
  unfold Arbiter.choose
  have : (cyclicAfter a.pointer).find? a.hasRequest = none := List.find?_eq_none.mpr fun q _ => by simp [h q]
  split
  · rfl
  · rw [this]

theorem Arbiter.choose_of_find {a : Arbiter} {q : Source} (hg : a.granting = none)
    (hf : (cyclicAfter a.pointer).find? a.hasRequest = some q) :
    a.choose = { a with pointer := q, granting := some q } := by
  simp [Arbiter.choose, hg, hf]

/-- The requester that a choice grants. -/
theorem Arbiter.find_of_choose_granting {a : Arbiter} {q : Source} (hg : a.granting = none)
    (hc : a.choose.granting = some q) : (cyclicAfter a.pointer).find? a.hasRequest = some q := by
  unfold Arbiter.choose at hc
  rw [hg] at hc
  cases hf : (cyclicAfter a.pointer).find? a.hasRequest with
  | none => simp [hf, hg] at hc
  | some q' => simpa [hf] using hc

theorem exec_arbiterGrant_next {s : State} (h : Operating s) : exec .arbiterGrant s = .next s.chooseGrant := by
  rw [exec_arbiterGrant, operate_next h.1]
  exact congrArg _ (State.settleDrain_of_kept h.2 rfl rfl fun _ _ _ => rfl)

theorem State.requested_eq (s : State) (q : Source) :
    (match q with
     | .port p => (s.request p).isSome
     | .host => s.arbiter.hostRequest.isSome) = s.arbiter.hasRequest q := by
  cases q <;> rfl

/-- Settles O25: the places of the cyclic order decide the choice. -/
theorem arbiterGrantsInCyclicOrder : Obligations.ArbiterGrantsInCyclicOrder := by
  constructor
  · intro s hs requested away
    rw [exec_arbiterGrant_next hs]
    have hrequested : ∀ q, requested q = s.arbiter.hasRequest q := s.requested_eq
    refine ⟨fun h => ?_, fun q hg hq hmin => ?_⟩
    · have : s.arbiter.choose = s.arbiter := by
        rcases h with h | h
        · obtain ⟨q, hq⟩ := Option.ne_none_iff_exists'.mp h
          exact Arbiter.choose_of_granting hq
        · exact Arbiter.choose_of_none fun q => hrequested q ▸ h q
      rw [State.chooseGrant, this]
    · have hfind : (cyclicAfter s.arbiter.pointer).find? s.arbiter.hasRequest = some q := by
        refine find_cyclicAfter_iff.mpr ⟨hrequested q ▸ hq, fun q' hq' hne => ?_⟩
        refine Nat.lt_of_le_of_ne (hmin q' (hrequested q' ▸ hq')) fun he => hne (Source.number_inj ?_)
        have h1 := q.number.isLt
        have h2 := q'.number.isLt
        unfold placesAfter at he
        omega
      rw [State.chooseGrant, Arbiter.choose_of_find hg hfind]
  · intro s t q mine hs hg ht hq hne hmine
    rw [exec_arbiterGrant_next hs] at ht
    cases ht
    have hfind := Arbiter.find_of_choose_granting hg hq
    have hchoice : s.chooseGrant.arbiter = { s.arbiter with pointer := q, granting := some q } :=
      Arbiter.choose_of_find hg hfind
    have hnear := (find_cyclicAfter_iff.mp hfind).2 mine (s.requested_eq mine ▸ hmine) (Ne.symm hne)
    rw [hchoice]
    exact ⟨rfl, rfl, placesAfter_lt_of_lt hnear, by omega⟩

end Sys2Proof.Machine

/-! PROOFS. Performed grants of a port: the write (R2, R18, R189), the read (R36, R112, R118), and the soft reset that
finishes one (R6, R84). -/

namespace Sys2Proof.Machine

/-! ### What the events of a grant leave alone -/

/-- The part of the state that raising a fault, ending a unit and posting for a port leave. -/
structure GrantFrame where
  marks : BitVec 32
  granting : Option Source
  hostRequest : Option Request
  builders : Port → Builder

/-- That part of a state. -/
def State.grantFrame (s : State) : GrantFrame :=
  ⟨s.marks, s.arbiter.granting, s.arbiter.hostRequest, fun p => (s.port p).builder⟩

theorem State.grantFrame_marks {s t : State} (h : t.grantFrame = s.grantFrame) : t.marks = s.marks :=
  congrArg GrantFrame.marks h

theorem State.grantFrame_granting {s t : State} (h : t.grantFrame = s.grantFrame) :
    t.arbiter.granting = s.arbiter.granting := congrArg GrantFrame.granting h

theorem State.grantFrame_hostRequest {s t : State} (h : t.grantFrame = s.grantFrame) :
    t.arbiter.hostRequest = s.arbiter.hostRequest := congrArg GrantFrame.hostRequest h

theorem State.grantFrame_builder {s t : State} (h : t.grantFrame = s.grantFrame) (p : Port) :
    (t.port p).builder = (s.port p).builder := congrFun (congrArg GrantFrame.builders h) p

theorem foldl_grantFrame {α : Type} {f : State → α → State} (h : ∀ s a, (f s a).grantFrame = s.grantFrame)
    (l : List α) (s : State) : (l.foldl f s).grantFrame = s.grantFrame := by
  induction l generalizing s with
  | nil => rfl
  | cons a l ih => rw [List.foldl_cons, ih, h]

@[simp] theorem State.setPort_grantFrame {s : State} {p : Port} {x : PortState} (h : x.builder = (s.port p).builder) :
    (s.setPort p x).grantFrame = s.grantFrame := by
  simp only [State.grantFrame, State.setPort_marks, State.setPort_arbiter, GrantFrame.mk.injEq, true_and]
  funext q
  rw [State.setPort_port]
  split
  · next hq => rw [h, hq]
  · rfl

@[simp] theorem State.setContext_grantFrame (s : State) (p : Port) (t : Stream) (c : HeadContext) :
    (s.setContext p t c).grantFrame = s.grantFrame := rfl
@[simp] theorem State.setRequest_grantFrame (s : State) (p : Port) (r : Option Request) :
    (s.setRequest p r).grantFrame = s.grantFrame := rfl
@[simp] theorem State.setSuspendLatch_grantFrame (s : State) (p : Port) :
    (s.setSuspendLatch p).grantFrame = s.grantFrame := rfl
@[simp] theorem State.completeRetire_grantFrame (s : State) (code : ResultCode) :
    (s.completeRetire code).grantFrame = s.grantFrame := rfl
@[simp] theorem State.setReportFlag_grantFrame (s : State) (p : Port) (k : FaultKind) :
    (s.setReportFlag p k).grantFrame = s.grantFrame := by simp [State.setReportFlag]
@[simp] theorem State.countAck_grantFrame (s : State) (p : Port) : (s.countAck p).grantFrame = s.grantFrame := by
  simp [State.countAck]
@[simp] theorem State.unitEnded_grantFrame (s : State) (p : Port) (t : Stream) (how : UnitEnd) :
    (s.unitEnded p t how).grantFrame = s.grantFrame := by
  unfold State.unitEnded
  split <;> rfl
@[simp] theorem State.unitsEnded_grantFrame (s : State) (p : Port) (items : List WorkItem) (how : UnitEnd) :
    (s.unitsEnded p items how).grantFrame = s.grantFrame := by
  unfold State.unitsEnded
  exact foldl_grantFrame (fun s i => s.unitEnded_grantFrame p i.stream how) items s
@[simp] theorem State.offerClaim_grantFrame (s : State) (c : Claim) : (s.offerClaim c).grantFrame = s.grantFrame := by
  unfold State.offerClaim
  (repeat' split) <;> rfl
@[simp] theorem State.takeClaim_grantFrame (s : State) (c : Claim) : (s.takeClaim c).grantFrame = s.grantFrame := by
  unfold State.takeClaim
  split
  · rfl
  · exact State.offerClaim_grantFrame _ c
  · exact State.offerClaim_grantFrame _ c
@[simp] theorem State.skipReceiving_grantFrame (s : State) (p : Port) :
    (s.skipReceiving p).grantFrame = s.grantFrame := by
  unfold State.skipReceiving
  split <;> simp
@[simp] theorem State.removeReceiving_grantFrame (s : State) (p : Port) (how : UnitEnd) :
    (s.removeReceiving p how).grantFrame = s.grantFrame := by
  have ended := s.unitsEnded_grantFrame p ((s.port p).queue.filter fun i => i.isReceiving) how
  refine (State.setPort_grantFrame ?_).trans ended
  exact (State.grantFrame_builder ended p).symm
@[simp] theorem State.enterSuspended_grantFrame (s : State) (p : Port) :
    (s.enterSuspended p).grantFrame = s.grantFrame := by
  simp [State.enterSuspended, State.dropReceiving]
@[simp] theorem State.classTwoAction_grantFrame (s : State) (c : Claim) :
    (s.classTwoAction c).grantFrame = s.grantFrame := by
  unfold State.classTwoAction
  split
  · rfl
  · split
    · simp [State.raiseSuspended]
    · rfl
@[simp] theorem State.flagClaim_grantFrame (s : State) (c : Claim) : (s.flagClaim c).grantFrame = s.grantFrame := by
  unfold State.flagClaim
  split <;> simp
@[simp] theorem State.raise_grantFrame (s : State) (c : Claim) : (s.raise c).grantFrame = s.grantFrame := by
  simp [State.raise]
@[simp] theorem State.finishHead_grantFrame (s : State) (p : Port) : (s.finishHead p).grantFrame = s.grantFrame := by
  unfold State.finishHead
  split <;> simp
@[simp] theorem State.continueCommit_grantFrame (s : State) (p : Port) :
    (s.continueCommit p).grantFrame = s.grantFrame := by
  have posted (r : Option Request) (queue : List WorkItem) :
      ((s.setRequest p r).setPort p { s.port p with queue := queue }).grantFrame = s.grantFrame :=
    State.setPort_grantFrame (s := s.setRequest p r) rfl
  unfold State.continueCommit
  (repeat' split) <;> simp [posted]
@[simp] theorem State.continueReturn_grantFrame (s : State) (p : Port) :
    (s.continueReturn p).grantFrame = s.grantFrame := by
  unfold State.continueReturn
  (repeat' split) <;> rfl
@[simp] theorem State.advanceFor_grantFrame (s : State) (p : Port) (r : Request) :
    (s.advanceFor p r).grantFrame = s.grantFrame := by
  unfold State.advanceFor
  (repeat' split) <;> rfl
@[simp] theorem State.cellCommitted_grantFrame (s : State) (p : Port) :
    (s.cellCommitted p).grantFrame = s.grantFrame := by
  unfold State.cellCommitted
  (repeat' split) <;> simp
@[simp] theorem State.settleDrain_grantFrame (s : State) : s.settleDrain.grantFrame = s.grantFrame := by
  have retired : ∀ (s : State) (h : Port × Stream), (s.retireIfDrained h).grantFrame = s.grantFrame := fun s h => by
    unfold State.retireIfDrained
    split <;> rfl
  unfold State.settleDrain
  split
  · rfl
  · dsimp only
    split
    · exact foldl_grantFrame retired allHeads s
    · rw [State.completeRetire_grantFrame]
      exact foldl_grantFrame retired allHeads s

/-! ### A performed grant -/

theorem State.markFor_arbiter (s : State) (r : Request) : (s.markFor r).arbiter = s.arbiter := by
  unfold State.markFor
  split <;> rfl

/-- R4: after the grant of a port nothing is being granted, and the host's request stands as it did. -/
theorem State.performPort_arbiter (s : State) (p : Port) :
    (s.performPort p).arbiter.granting = none ∧
      (s.performPort p).arbiter.hostRequest = s.arbiter.hostRequest := by
  unfold State.performPort
  split
  · exact ⟨rfl, rfl⟩
  · next r _ =>
    dsimp only
    split
    · next v _ =>
      have frame (u : State) : (((u.advanceFor p r).cellCommitted p).continueCommit p).grantFrame = u.grantFrame := by
        simp
      rw [State.grantFrame_granting (frame _), State.grantFrame_hostRequest (frame _), State.markFor_arbiter]
      exact ⟨rfl, rfl⟩
    · have placed : (if r.wanted then ((s.releasePort p).advanceFor p r).placeCell p (s.cell r.row r.column)
          else (s.releasePort p).advanceFor p r).arbiter = ((s.releasePort p).advanceFor p r).arbiter := by
        split <;> rfl
      have advanced := (s.releasePort p).advanceFor_grantFrame p r
      rw [State.grantFrame_granting (State.continueReturn_grantFrame _ p),
        State.grantFrame_granting (State.continueCommit_grantFrame _ p),
        State.grantFrame_hostRequest (State.continueReturn_grantFrame _ p),
        State.grantFrame_hostRequest (State.continueCommit_grantFrame _ p), placed,
        State.grantFrame_granting advanced, State.grantFrame_hostRequest advanced]
      exact ⟨rfl, rfl⟩

theorem exec_grantPerformed_port {s : State} (hs : s.inReset = false) {p : Port}
    (hg : s.arbiter.granting = some (.port p)) : exec .grantPerformed s = .next (s.performPort p).settleDrain := by
  rw [exec_grantPerformed, operate_next hs]
  simp [State.performGrant, hg]

/-! ### The soft reset -/

theorem exec_softReset_next {s : State} (hs : BusFree s) {v : Word} (hv : v.getLsbD 8 = true) :
    exec (.softReset v) s = .next s.softResetAll := by
  obtain ⟨⟨hr, -⟩, hh⟩ := hs
  rw [exec_softReset, busCommand_next hr hh]
  simp only [State.takeCycle, State.writeCycle, State.writeControl, hv, if_true]
  exact congrArg _ (State.settleDrain_idle rfl)

theorem State.finishGrant_of_no_port {s : State} (h : ∀ p : Port, s.arbiter.granting ≠ some (.port p)) :
    s.finishGrant = s := by
  unfold State.finishGrant
  split
  · next p hp => exact absurd hp (h p)
  · rfl
  · rfl

theorem State.inReset_of_kept {s t : State} (h : t.kept = s.kept) : t.inReset = s.inReset := congrArg Kept.inReset h

/-- A performed grant of a port leaves the RESET input as it was. -/
theorem State.performPort_inReset (s : State) (p : Port) : (s.performPort p).inReset = s.inReset := by
  unfold State.performPort
  split
  · rfl
  · next r _ =>
    dsimp only
    split
    · next v _ => exact State.inReset_of_kept (s := (s.releasePort p).writeCell r.row r.column v) (by simp)
    · split <;> exact State.inReset_of_kept (by simp)

/-- Settles O6: with no port grant to finish the soft reset is that of every block; otherwise the grant is finished
first. -/
theorem softResetResult : Obligations.SoftResetResult := by
  refine ⟨fun v s hs hv hg => ?_, fun v p s t hs hv hg ht => ?_⟩
  · rw [exec_softReset_next hs hv, State.softResetAll, State.finishGrant_of_no_port hg]
    rfl
  · rw [exec_grantPerformed_port hs.1.1 hg] at ht
    cases ht
    have finished : s.finishGrant = (s.performPort p).settleDrain := by simp [State.finishGrant, hg]
    obtain ⟨hgranting, hhost⟩ := s.performPort_arbiter p
    have frame := (s.performPort p).settleDrain_grantFrame
    have hreset : (s.performPort p).settleDrain.inReset = false := by
      rw [State.inReset_of_kept (State.settleDrain_kept _), State.performPort_inReset, hs.1.1]
    have hno : ∀ q : Port, (s.performPort p).settleDrain.arbiter.granting ≠ some (.port q) := fun q => by
      rw [State.grantFrame_granting frame, hgranting]
      nofun
    rw [exec_softReset_next hs hv, exec_softReset, busCommand_next hreset ?_]
    · simp only [State.takeCycle, State.writeCycle, State.writeControl, hv, if_true, State.softResetAll, finished,
        State.finishGrant_of_no_port hno]
      exact congrArg _ (State.settleDrain_idle rfl).symm
    · rw [State.grantFrame_hostRequest frame, hhost, hs.2]

/-! ### A write grant -/

theorem withMark_getLsbD (marks : BitVec 32) (m n : ApIndex) :
    (withMark marks m).getLsbD n.val = (marks.getLsbD n.val || decide (n = m)) := by
  simp [withMark, Fin.ext_iff, eq_comm]

/-- R18: the mark test sets the flag of the carried aperture, where all of its conditions hold, and no other. -/
theorem State.markFor_getLsbD (s : State) (r : Request) (n : ApIndex) :
    (s.markFor r).marks.getLsbD n.val =
      (s.marks.getLsbD n.val ||
        (decide (n = r.aperture) && r.marking && (s.aperture n).isDefined &&
          (s.aperture n).generation == r.generation)) := by
  unfold State.markFor
  split
  · next h =>
    obtain ⟨hm, hd, hg⟩ := h
    show (withMark s.marks r.aperture).getLsbD n.val = _
    rw [withMark_getLsbD]
    by_cases hn : n = r.aperture
    · simp [hn, hm, hd, hg]
    · simp [hn]
  · next h =>
    by_cases hn : n = r.aperture
    · subst hn
      cases hm : r.marking <;> cases hd : (s.aperture r.aperture).isDefined <;> simp_all
    · simp [hn]

theorem State.cell_of_kept {s t : State} (h : t.kept = s.kept) (row : BitVec 8) (column : BitVec 10) :
    t.cell row column = s.cell row column := by
  have h1 : t.powerOns = s.powerOns := congrArg Kept.powerOns h
  have h2 : t.store = s.store := congrArg Kept.store h
  rw [State.cell, State.cell, h1, h2]

/-- Settles O26: the write, the mark test, and frames for all that follows them. -/
theorem portWriteGrantStoresOneCell : Obligations.PortWriteGrantStoresOneCell := by
  intro p s r v hs hstore hg hr hv
  refine ⟨_, exec_grantPerformed_port hs.1 hg, fun row column => ?_, fun n => ?_⟩
  · have kept : (s.performPort p).settleDrain.kept = ((s.releasePort p).writeCell r.row r.column v).kept := by
      simp [State.performPort, hr, hv]
    rw [State.cell_of_kept kept, State.writeCell_cell (s := s.releasePort p) hstore]
    rfl
  · have frame : (s.performPort p).settleDrain.grantFrame =
        (((s.releasePort p).writeCell r.row r.column v).markFor r).grantFrame := by
      simp [State.performPort, hr, hv]
    rw [State.grantFrame_marks frame, State.markFor_getLsbD]
    rfl

end Sys2Proof.Machine

/-! PROOFS. The performed read grant of a port (R36, R112, R118), and what it lets go on: a commit (R95, R97) or the
RETURN being sent. -/

namespace Sys2Proof.Machine

/-! ### In-flight counts -/

/-- R26: the count speaks of the streams of the work items and of the RETURN being sent, and of nothing else. -/
theorem State.inFlight_eq (s : State) (p : Port) (t : Stream) :
    s.inFlight p t =
      (((s.port p).queue.map fun i => i.stream).filter fun u => u == t).length +
        (match (s.port p).builder.current.map fun r => r.stream with
         | some u => if u = t then 1 else 0
         | none => 0) := by
  unfold State.inFlight
  congr 1
  · simp [List.filter_map, Function.comp_def]
  · cases (s.port p).builder.current <;> rfl

theorem State.setPort_inFlight {s : State} {p : Port} {x : PortState}
    (hq : (x.queue.map fun i => i.stream) = (s.port p).queue.map fun i => i.stream)
    (hb : (x.builder.current.map fun r => r.stream) = (s.port p).builder.current.map fun r => r.stream)
    (q : Port) (u : Stream) : (s.setPort p x).inFlight q u = s.inFlight q u := by
  rw [State.inFlight_eq, State.inFlight_eq, State.setPort_port]
  split
  · next h => subst h; rw [hq, hb]
  · rfl

/-! ### The context's advance -/

/-- R36, log entry 9: a context after the performed grant of a request that was posted for it. -/
def HeadContext.moved (c : HeadContext) (standing : Bool) : HeadContext :=
  if standing = true ∧ (c.state = .opened ∨ c.state = .retiring) then c.advance else c

/-- R37: an advance leaves RETIRING contexts RETIRING, and makes none so. -/
theorem HeadContext.advance_retiring (c : HeadContext) : c.advance.state = .retiring ↔ c.state = .retiring := by
  unfold HeadContext.advance
  (repeat' split) <;> simp_all

theorem HeadContext.moved_retiring (c : HeadContext) (standing : Bool) :
    (c.moved standing).state = .retiring ↔ c.state = .retiring := by
  unfold HeadContext.moved
  split
  · exact c.advance_retiring
  · rfl

theorem State.setContext_context_id (s : State) (p : Port) (t : Stream) : s.setContext p t (s.context p t) = s := by
  simp [State.setContext, State.context]

theorem State.advanceFor_eq {s : State} {r : Request} {t : Stream} (p : Port) (h : r.stream = some t) :
    s.advanceFor p r = s.setContext p t ((s.context p t).moved r.standing) := by
  unfold State.advanceFor HeadContext.moved
  rw [h]
  dsimp only
  split
  · rfl
  · rw [State.setContext_context_id]

/-! ### Requests (R3, R36) -/

theorem State.requestFor_of_lt {s : State} {p : Port} {t : Stream} {k : Copy} (access : Access)
    (hr : s.request p = none) (hk : (s.context p t).copy = some k) (hc : (s.context p t).cursor < k.geometry.size) :
    s.requestFor p t access = some (requestAt access (some t) k (s.context p t).cursor) := by
  simp [State.requestFor, hr, hk, hc]

theorem State.requestFor_of_le {s : State} {p : Port} {t : Stream} {k : Copy} (access : Access)
    (hk : (s.context p t).copy = some k) (hc : k.geometry.size ≤ (s.context p t).cursor) :
    s.requestFor p t access = none := by
  unfold State.requestFor
  split
  · next k' _ hk' =>
    rw [hk] at hk'
    cases hk'
    exact if_neg (by omega)
  · rfl

theorem HeadContext.atEnd_of_stop {c : HeadContext} {k : Copy} (hk : c.copy = some k) (hp : k.geometry.policy = .stop)
    (hc : k.geometry.size ≤ c.cursor) : c.atEnd = true := by
  simp [HeadContext.atEnd, hk, hp, hc]

theorem HeadContext.atEnd_of_lt {c : HeadContext} {k : Copy} (hk : c.copy = some k) (hc : c.cursor < k.geometry.size) :
    c.atEnd = false := by
  simp [HeadContext.atEnd, hk, hc]

/-! ### A commit goes on (R95, R97) -/

/-- With no commit whose cell in hand is clear at the head of the queue there is nothing to go on with. -/
theorem State.continueCommit_of_none {s : State} {p : Port}
    (h : ∀ (i : WorkItem) (rest : List WorkItem) (j : Nat) (counted : Bool), (s.port p).queue = i :: rest →
      i.state ≠ .committing j false false counted) : s.continueCommit p = s := by
  unfold State.continueCommit
  split
  · rfl
  · next i rest hq =>
    split
    · rfl
    · rfl
    · next j inHand leaving counted hi =>
      refine if_pos ?_
      by_contra hn
      simp only [not_or, Bool.not_eq_true] at hn
      obtain ⟨rfl, rfl⟩ := hn
      exact h i rest j counted hq hi

theorem State.continueCommit_of_nil {s : State} {p : Port} (h : (s.port p).queue = []) : s.continueCommit p = s :=
  State.continueCommit_of_none (by simp [h])

section
variable {s : State} {p : Port} {i : WorkItem} {rest : List WorkItem} {j : Nat} {counted : Bool}
  (hq : (s.port p).queue = i :: rest) (hi : i.state = .committing j false false counted)
include hq hi

theorem State.continueCommit_of_done (hj : i.parameter.toNat ≤ j) : s.continueCommit p = s.finishHead p := by
  simp [State.continueCommit, hq, hi, hj]

theorem State.continueCommit_of_atEnd (hj : j < i.parameter.toNat) (he : (s.context p i.stream).atEnd = true) :
    s.continueCommit p = (s.raise (s.contextClaim .apertureEnd p i.stream i.capture)).finishHead p := by
  simp [State.continueCommit, hq, hi, Nat.not_le.mpr hj, he]

theorem State.continueCommit_of_lt {k : Copy} {slot : Fin 2} (hj : j < i.parameter.toNat) (hr : s.request p = none)
    (hs : i.slot = some slot) (hk : (s.context p i.stream).copy = some k)
    (hc : (s.context p i.stream).cursor < k.geometry.size) :
    s.continueCommit p =
      (s.setPort p
        { s.port p with queue := { i with state := .committing j true false counted } :: rest }).setRequest p
        (some (requestAt (.write (((s.port p).slots.get slot).getD j 0)) (some i.stream) k
          (s.context p i.stream).cursor)) := by
  have hn := HeadContext.atEnd_of_lt hk hc
  have hf := State.requestFor_of_lt (.write (((s.port p).slots.get slot).getD j 0)) hr hk hc
  simp only [State.continueCommit, hq, hi, Nat.not_le.mpr hj, hn, PortState.payloadCell, hs, hf, setHeadState]
  rfl

end

/-! ### A RETURN goes on (R112, R118) -/

theorem State.continueReturn_of_none {s : State} {p : Port} (h : (s.port p).builder.current = none) :
    s.continueReturn p = s := by
  simp [State.continueReturn, h]

section
variable {s : State} {p : Port} {x : CurrentReturn} (hx : (s.port p).builder.current = some x)
include hx

theorem State.continueReturn_of_done (h : x.zeroFilled = true ∨ x.length ≤ x.cells.length) :
    s.continueReturn p = s := by
  simp [State.continueReturn, hx, h]

theorem State.continueReturn_of_lt {k : Copy} (hz : x.zeroFilled = false) (hl : x.cells.length < x.length)
    (hr : s.request p = none) (hk : (s.context p x.stream).copy = some k)
    (hc : (s.context p x.stream).cursor < k.geometry.size) :
    s.continueReturn p = s.setRequest p (some (requestAt .read (some x.stream) k (s.context p x.stream).cursor)) := by
  simp [State.continueReturn, hx, hz, Nat.not_le.mpr hl, State.requestFor_of_lt .read hr hk hc]

theorem State.continueReturn_of_le {k : Copy} (hz : x.zeroFilled = false) (hl : x.cells.length < x.length)
    (hk : (s.context p x.stream).copy = some k) (hc : k.geometry.size ≤ (s.context p x.stream).cursor) :
    s.continueReturn p = s := by
  simp [State.continueReturn, hx, hz, Nat.not_le.mpr hl, State.requestFor_of_le .read hk hc]

theorem State.placeCell_of_some (v : Word) :
    s.placeCell p v =
      s.setPort p
        { s.port p with
          builder := { (s.port p).builder with current := some { x with cells := x.cells ++ [v] } } } := by
  simp [State.placeCell, hx]

end

/-- R118: with no RETURN being sent the value goes nowhere. -/
theorem State.placeCell_of_none {s : State} {p : Port} (h : (s.port p).builder.current = none) (v : Word) :
    s.placeCell p v = s := by
  have hb : ({ (s.port p).builder with current := none } : Builder) = (s.port p).builder := by rw [← h]
  unfold State.placeCell
  rw [h, Option.map_none, hb]
  exact s.setPort_port_id p

/-! ### The read grant -/

/-- The state after the grant of a port's read, before its value is placed and the port goes on. -/
def State.afterRead (s : State) (p : Port) (t : Stream) (standing : Bool) : State :=
  (s.releasePort p).setContext p t ((s.context p t).moved standing)

theorem State.afterRead_request (s : State) (p : Port) (t : Stream) (standing : Bool) :
    (s.afterRead p t standing).request p = none := by
  simp [State.afterRead, State.releasePort, State.request]

theorem State.afterRead_context (s : State) (p : Port) (t : Stream) (standing : Bool) (u : Stream) :
    (s.afterRead p t standing).context p u = if u = t then (s.context p t).moved standing else s.context p u := by
  simp only [State.afterRead, State.setContext_context, true_and, eq_comm (a := t)]
  rfl

theorem exec_grantPerformed_read {s : State} {p : Port} {r : Request} {t : Stream} (hs : Operating s)
    (hg : s.arbiter.granting = some (.port p)) (hr : s.request p = some r) (ha : r.access = .read)
    (ht : r.stream = some t) :
    exec .grantPerformed s = .next
      ((((if r.wanted then (s.afterRead p t r.standing).placeCell p (s.cell r.row r.column)
        else s.afterRead p t r.standing).continueCommit p).continueReturn p).settleDrain) := by
  rw [exec_grantPerformed_port hs.1 hg]
  simp only [State.performPort, hr, ha, State.advanceFor_eq p ht]
  rfl

/-- R144: a grant that moves one context and ends no unit ends no drain. -/
theorem State.settleDrain_of_afterRead {s u : State} {p : Port} {t : Stream} {standing : Bool} (hs : DrainSettled s)
    (hr : u.retire = s.retire) (hc : u.contexts = (s.afterRead p t standing).contexts)
    (hi : ∀ q w, u.inFlight q w = s.inFlight q w) : u.settleDrain = u := by
  refine State.settleDrain_settled (drainSettled_congr hs (by rw [hr]) (fun q w => ?_) fun q w _ => hi q w)
  have hu : u.context q w = (s.afterRead p t standing).context q w := by simp only [State.context, hc]
  rw [hu, State.afterRead, State.setContext_context]
  split
  · next h =>
    obtain ⟨rfl, rfl⟩ := h
    exact HeadContext.moved_retiring _ _
  · rfl

/-- Settles O28: the value is placed or discarded, then the commit or the RETURN that waited goes on. -/
theorem readGrantPlacesACell : Obligations.ReadGrantPlacesACell := by
  intro p s r t hs hg hr ha ht c c' s1 moved posted
  have hexec := exec_grantPerformed_read hs hg hr ha ht
  have hs1 : s.afterRead p t r.standing = s1 := rfl
  have hrequest : s1.request p = none := s.afterRead_request p t r.standing
  have hmoved (u : Stream) : s1.context p u = moved u := s.afterRead_context p t r.standing u
  have settled {u : State} (h1 : u.retire = s.retire) (h2 : u.contexts = s1.contexts)
      (h3 : ∀ q w, u.inFlight q w = s.inFlight q w) : u.settleDrain = u :=
    State.settleDrain_of_afterRead hs.2 h1 h2 h3
  rw [hs1] at hexec
  refine ⟨fun hb hn => ?_, fun i rest j counted hb hw hq hi => ?_,
    fun x hx hq => ⟨fun hw hdone => ?_, fun k hw hz hl hk => ?_, ?_⟩⟩
  · -- nothing waits, and a value that is still wanted has nowhere to go
    have hb : (s1.port p).builder.current = none := hb
    rw [hexec, State.placeCell_of_none hb, ite_self, State.continueCommit_of_none (s := s1) hn,
      State.continueReturn_of_none hb]
  · -- a commit waits
    have hb : (s1.port p).builder.current = none := hb
    have hq : (s1.port p).queue = i :: rest := hq
    rw [hexec, hw, if_neg nofun]
    refine ⟨fun hj => ?_, fun k hj hk => ?_⟩
    · rw [State.continueCommit_of_done hq hi hj, State.continueReturn_of_none]
      rwa [State.grantFrame_builder (s1.finishHead_grantFrame p)]
    rw [← hmoved] at hk ⊢
    refine ⟨fun hp hc => ?_, fun slot hslot hc => ?_⟩
    · have hclaim : s1.contextClaim .apertureEnd p i.stream i.capture =
          ⟨.apertureEnd, .port p, some i.stream, some ⟨k.aperture, (s1.context p i.stream).cursor⟩,
            some ⟨headerType i.capture, i.capture⟩⟩ := by
        simp [State.contextClaim, HeadContext.walkPoint, packetRef, hk]
      rw [State.continueCommit_of_atEnd hq hi hj (HeadContext.atEnd_of_stop hk hp hc), State.continueReturn_of_none,
        hclaim]
      rwa [State.grantFrame_builder (State.finishHead_grantFrame _ p),
        State.grantFrame_builder (State.raise_grantFrame _ _)]
    · rw [State.continueCommit_of_lt hq hi hj hrequest hslot hk hc, State.continueReturn_of_none (by simpa using hb),
        settled, hmoved]
      exacts [rfl, rfl, rfl, State.setPort_inFlight (s := s1) (by rw [hq]; rfl) rfl]
  · -- a RETURN that has all its cells, or was cut short
    have hx : (s1.port p).builder.current = some x := hx
    rw [hexec, hw, if_neg nofun, State.continueCommit_of_nil (s := s1) hq, State.continueReturn_of_done hx hdone]
  · -- a RETURN waits for its next cell
    have hx : (s1.port p).builder.current = some x := hx
    rw [hexec, hw, if_neg nofun, State.continueCommit_of_nil (s := s1) hq]
    rw [← hmoved] at hk ⊢
    refine ⟨fun hc => ?_, fun hc => ?_⟩
    · rw [State.continueReturn_of_lt hx hz hl hrequest hk hc, settled, hmoved]
      exacts [rfl, rfl, rfl, fun _ _ => rfl]
    · rw [State.continueReturn_of_le hx hz hl hk hc, settled]
      exacts [rfl, rfl, fun _ _ => rfl]
  · -- the value joins the RETURN
    intro hxt hw hz x' s2
    have hx : (s1.port p).builder.current = some x := hx
    have hx2 : (s2.port p).builder.current = some x' := by simp [s2]
    have hq2 : (s2.port p).queue = [] := by simpa [s2] using hq
    have hlength : x'.cells.length = x.cells.length + 1 := by simp [x']
    have hs2 : s1.placeCell p (s.cell r.row r.column) = s2 := State.placeCell_of_some hx _
    have same : ∀ q w, s2.inFlight q w = s.inFlight q w := State.setPort_inFlight (s := s1) rfl (by rw [hx]; rfl)
    rw [hexec, hw, if_pos rfl, hs2, State.continueCommit_of_nil hq2]
    refine ⟨fun hl => ?_, fun k hl hk hc => ?_⟩
    · rw [State.continueReturn_of_done hx2 (.inr (hlength ▸ hl)), settled]
      exacts [rfl, rfl, same]
    · have hcontext : s2.context p x'.stream = c' := by
        show s1.context p x.stream = c'
        rw [hmoved, hxt]
        exact if_pos rfl
      rw [← hcontext] at hk hc
      rw [State.continueReturn_of_lt hx2 hz (hlength ▸ hl) hrequest hk hc, settled]
      · show Host.Outcome.next
          (s2.setRequest p (some (requestAt .read (some x.stream) k (s1.context p x.stream).cursor))) = _
        rw [hmoved, hxt]
        rfl
      exacts [rfl, rfl, same]

end Sys2Proof.Machine

/-! PROOFS. Commands of the command unit that end in the event of their take (R124, R125): DEFINE_APERTURE (R12, R13)
and CLEAR_APERTURE (R15). -/

namespace Sys2Proof.Machine

/-! ### A command taken and completed -/

/-- R124, R125: the state after a taken command has completed with a result and changed nothing but the unit. -/
def State.answered (s : State) (v : Word) (code : ResultCode) : State :=
  { s with
    command := ⟨false, false, v, s.command.args, s.command.args, code, Bank.fill 3 0⟩
    interrupts := { s.interrupts with cmdDone := true } }

theorem State.complete_takeCommand (s : State) (v : Word) (code : ResultCode) :
    (s.takeCommand v).complete code = s.answered v code := by
  have details : (((Bank.fill 3 (0 : BitVec 8)).set 0 0).set 1 0).set 2 0 = Bank.fill 3 0 := by decide
  simp only [State.complete, State.completeWith, State.takeCommand, State.answered]
  exact congrArg (fun d => ({ s with
    command := ⟨false, false, v, s.command.args, s.command.args, code, d⟩
    interrupts := { s.interrupts with cmdDone := true } } : State)) details

/-- R124: a write to CMD on an IDLE unit is taken and its command executes. -/
theorem busCommand_cmd {s : State} (hs : CommandReady s) (v : Word) :
    busCommand s (.write .cmd v) = .next ((s.takeCommand v).runCommand (commandOf v)).settleDrain := by
  obtain ⟨⟨⟨hr, -⟩, hh⟩, hb⟩ := hs
  rw [busCommand_next hr hh]
  simp [State.takeCycle, State.writeCycle, State.writeCmd, hb]

theorem State.answered_settled {s : State} (hs : DrainSettled s) (v : Word) (code : ResultCode) :
    (s.answered v code).settleDrain = s.answered v code :=
  State.settleDrain_of_kept hs rfl rfl fun _ _ _ => rfl

/-! ### Fields of the staged arguments -/

theorem indexOf_eq_none {n : Nat} (h : 32 ≤ n) : indexOf n = none := by
  simp [indexOf, Nat.not_lt.mpr h]

theorem indexOf_val (n : ApIndex) : indexOf n.val = some n := by
  simp [indexOf]

theorem Rights.isEmpty_iff (a : Rights) : a.isEmpty = true ↔ a = ⟨false, false⟩ := by
  obtain ⟨r, w⟩ := a
  simp [Rights.isEmpty]

/-! ### DEFINE_APERTURE -/

theorem judgeDefine_badIndex {a : Bank 4 Word} (h : 32 ≤ defineIndex a) : judgeDefine a = .error .badIndex := by
  simp [judgeDefine, indexOf_eq_none h]

section
variable {a : Bank 4 Word} {n : ApIndex} (hn : defineIndex a = n.val)
include hn

theorem judgeDefine_badGeometry
    (h : 1023 < defineFirstColumn a ∨ 1023 < defineLastColumn a ∨ defineLastColumn a < defineFirstColumn a) :
    judgeDefine a = .error .badGeometry := by
  simp only [judgeDefine, hn, indexOf_val]
  exact if_pos (by omega)

variable (h1 : defineFirstColumn a ≤ 1023) (h2 : defineLastColumn a ≤ 1023)
  (h3 : defineFirstColumn a ≤ defineLastColumn a)
include h1 h2 h3

theorem judgeDefine_badRights (h : defineRights a = ⟨false, false⟩) : judgeDefine a = .error .badRights := by
  simp [judgeDefine, hn, indexOf_val, h1, h2, h3, (Rights.isEmpty_iff _).mpr h]

variable (h4 : defineRights a ≠ ⟨false, false⟩)
include h4

theorem judgeDefine_badMark (h : (defineGeometry a).lineCount < (defineGeometry a).mark.toNat) :
    judgeDefine a = .error .badMark := by
  simp [judgeDefine, hn, indexOf_val, h1, h2, h3, Rights.isEmpty_iff, h4, h]

theorem judgeDefine_ok (h : (defineGeometry a).mark.toNat ≤ (defineGeometry a).lineCount) :
    judgeDefine a = .ok n := by
  simp [judgeDefine, hn, indexOf_val, h1, h2, h3, Rights.isEmpty_iff, h4, h]

end

section
variable {s : State} (hs : CommandReady s)
include hs

theorem exec_defineAperture_refused {code : ResultCode} (h : judgeDefine s.command.args = .error code) :
    exec .defineAperture s = .next (s.answered 0x0011 code) := by
  rw [exec_defineAperture, busCommand_cmd hs]
  have : (s.takeCommand 0x0011).defineCommand = s.answered 0x0011 code := by
    rw [← s.complete_takeCommand]
    unfold State.defineCommand
    rw [show judgeDefine (s.takeCommand 0x0011).command.staged = .error code from h]
  exact congrArg _ ((congrArg State.settleDrain this).trans (State.answered_settled hs.1.1.2 _ _))

theorem exec_defineAperture_done {n : ApIndex} (h : judgeDefine s.command.args = .ok n) :
    exec .defineAperture s = .next ((s.answered 0x0011 .done).define n) := by
  rw [exec_defineAperture, busCommand_cmd hs]
  have : (s.takeCommand 0x0011).defineCommand = (s.answered 0x0011 .done).define n := by
    rw [← s.complete_takeCommand]
    unfold State.defineCommand
    rw [show judgeDefine (s.takeCommand 0x0011).command.staged = .ok n from h]
    rfl
  exact congrArg _ ((congrArg State.settleDrain this).trans
    (State.settleDrain_of_kept hs.1.1.2 rfl rfl fun _ _ _ => rfl))

/-! ### CLEAR_APERTURE -/

theorem exec_clearAperture_next :
    exec .clearAperture s = .next ((s.takeCommand 0x0012).clearCommand).settleDrain := by
  rw [exec_clearAperture, busCommand_cmd hs]
  rfl

theorem exec_clearAperture_badIndex (h : 32 ≤ argIndex s.command.args) :
    exec .clearAperture s = .next (s.answered 0x0012 .badIndex) := by
  have : (s.takeCommand 0x0012).clearCommand = s.answered 0x0012 .badIndex := by
    rw [← s.complete_takeCommand]
    unfold State.clearCommand
    rw [show indexOf (argIndex (s.takeCommand 0x0012).command.staged) = none from indexOf_eq_none h]
  rw [exec_clearAperture_next hs, this, State.answered_settled hs.1.1.2]

variable {n : ApIndex} (hn : argIndex s.command.args = n.val)
include hn

omit hs in
theorem State.clearCommand_takeCommand : (s.takeCommand 0x0012).clearCommand =
    if s.isBound n ∨ s.hostHolds n then s.answered 0x0012 .inUse
    else (s.answered 0x0012 .done).setAperture n { s.aperture n with isDefined := false } := by
  have index : indexOf (argIndex (s.takeCommand 0x0012).command.staged) = some n :=
    (congrArg indexOf hn).trans (indexOf_val n)
  rw [← s.complete_takeCommand, ← s.complete_takeCommand]
  unfold State.clearCommand
  rw [index]
  rfl

theorem exec_clearAperture_inUse (h : s.isBound n = true ∨ s.hostHolds n = true) :
    exec .clearAperture s = .next (s.answered 0x0012 .inUse) := by
  rw [exec_clearAperture_next hs, State.clearCommand_takeCommand hn, if_pos h, State.answered_settled hs.1.1.2]

theorem exec_clearAperture_done (h : ¬ (s.isBound n = true ∨ s.hostHolds n = true)) :
    exec .clearAperture s =
      .next ((s.answered 0x0012 .done).setAperture n { s.aperture n with isDefined := false }) := by
  rw [exec_clearAperture_next hs, State.clearCommand_takeCommand hn, if_neg h]
  exact congrArg _ (State.settleDrain_of_kept hs.1.1.2 rfl rfl fun _ _ _ => rfl)

end

theorem State.isBound_iff {s : State} {n : ApIndex} :
    s.isBound n = true ↔ ∃ (p : Port) (t : Stream) (b : Binding), s.slot p t = some b ∧ b.aperture = n := by
  rw [← not_iff_not, Bool.not_eq_true, State.isBound_eq_false]
  simp

theorem State.hostHolds_iff {s : State} {n : ApIndex} :
    s.hostHolds n = true ↔ (s.hostContext.state = .opened ∨ s.hostContext.state = .ended) ∧
      ∃ k : Copy, s.hostContext.copy = some k ∧ k.aperture = n := by
  unfold State.hostHolds
  cases s.hostContext.copy <;> simp

/-- Settles O35: the verdict of the checks decides what the command leaves. -/
theorem defineAndClearApertureResults : Obligations.DefineAndClearApertureResults := by
  constructor
  · intro s hs a taken result
    refine ⟨fun h => exec_defineAperture_refused hs (judgeDefine_badIndex h), fun n hn =>
      ⟨fun h => exec_defineAperture_refused hs (judgeDefine_badGeometry hn h), fun h1 h2 h3 =>
        ⟨fun h => exec_defineAperture_refused hs (judgeDefine_badRights hn h1 h2 h3 h), fun h4 =>
          ⟨fun h => exec_defineAperture_refused hs (judgeDefine_badMark hn h1 h2 h3 h4 h), fun h =>
            exec_defineAperture_done hs (judgeDefine_ok hn h1 h2 h3 h4 h)⟩⟩⟩⟩
  · intro s hs a taken
    refine ⟨exec_clearAperture_badIndex hs, fun n hn => ?_⟩
    rw [← State.isBound_iff, ← State.hostHolds_iff]
    exact ⟨exec_clearAperture_inUse hs hn, exec_clearAperture_done hs hn⟩

end Sys2Proof.Machine

/-! PROOFS. What each register write stores, clears or ignores (R183). -/

namespace Sys2Proof.Machine

/-- R26: in-flight counts are read off the ports. -/
theorem State.inFlight_of_ports {s t : State} (h : t.ports = s.ports) (p : Port) (u : Stream) :
    t.inFlight p u = s.inFlight p u := by
  simp only [State.inFlight, State.port, h]

/-- R144, R180: a write cycle that leaves the drain, the contexts and the in-flight counts as they were is its effect
alone. -/
theorem busCommand_write {s t : State} (hs : BusFree s) {r : Register} {v : Word} (hw : s.writeCycle r v = t)
    (hr : t.retire.phase = s.retire.phase) (hc : t.contexts = s.contexts)
    (hi : ∀ p u, t.inFlight p u = s.inFlight p u) : busCommand s (.write r v) = .next t := by
  obtain ⟨⟨hreset, hdrain⟩, hh⟩ := hs
  rw [busCommand_next hreset hh]
  subst hw
  refine congrArg _ (State.settleDrain_settled (drainSettled_congr hdrain hr (fun p u => ?_) fun p u _ => hi p u))
  simp [State.context, hc]

/-! ### Latches, flags and classes -/

/-- R19: a write-1 clears the flags of its half, and no other. -/
theorem clearMarks_getLsbD (marks : BitVec 32) (hi : Bool) (v : Word) (n : ApIndex) :
    (clearMarks marks hi v).getLsbD n.val =
      (marks.getLsbD n.val && !(decide (16 ≤ n.val) == hi && v.getLsbD (n.val % 16))) := by
  have hn := n.isLt
  have half : (if hi then v ++ 0#16 else 0#16 ++ v : BitVec 32).getLsbD n.val =
      (decide (16 ≤ n.val) == hi && v.getLsbD (n.val % 16)) := by
    have hmod : n.val % 16 = if n.val < 16 then n.val else n.val - 16 := by
      split <;> omega
    cases hi with
    | false =>
      show (0#16 ++ v).getLsbD n.val = _
      rw [BitVec.getLsbD_append]
      by_cases h : n.val < 16 <;> simp [h, hmod]
    | true =>
      show (v ++ 0#16).getLsbD n.val = _
      rw [BitVec.getLsbD_append]
      by_cases h : n.val < 16 <;> simp [h, hmod]
      omega
  rw [← half]
  unfold clearMarks
  cases hi <;> simp [hn]

/-- R165: a class field is the value shifted down and masked. -/
theorem classOf_extract (v : Word) (k : Nat) :
    classOf (v.extractLsb' k 2) =
      if (v >>> k) &&& 3 = 0 then .class0 else if (v >>> k) &&& 3 = 1 then .class1 else .class2 := by
  have field : (v >>> k) &&& 3 = (v.extractLsb' k 2).zeroExtend 16 := by
    apply BitVec.eq_of_toNat_eq
    have mask : v.toNat >>> k &&& 3 = v.toNat >>> k % 4 := Nat.and_two_pow_sub_one_eq_mod _ 2
    have small : v.toNat >>> k % 4 % 65536 = v.toNat >>> k % 4 := Nat.mod_eq_of_lt (by omega)
    simp [mask, small]
  rw [field]
  unfold classOf
  generalize v.extractLsb' k 2 = x
  revert x
  decide

theorem toNat_and_31 (v : Word) : (v &&& 0x001F).toNat = (v.extractLsb' 0 5).toNat := by
  have : v.toNat &&& 31 = v.toNat % 32 := Nat.and_two_pow_sub_one_eq_mod _ 5
  simpa using this

theorem extract_toFin_2 (v : Word) : (v.extractLsb' 0 2).toFin = ⟨v.toNat % 4, Nat.mod_lt _ (by decide)⟩ :=
  Fin.ext (by simp)

theorem extract_toFin_5 (v : Word) : (v.extractLsb' 0 5).toFin = ⟨v.toNat % 32, Nat.mod_lt _ (by decide)⟩ :=
  Fin.ext (by simp)

theorem State.writeCtxSelect_of_lt {s : State} {v : Word} {sel : Fin 17} (h : (v &&& 0x001F).toNat = sel.val) :
    s.writeCtxSelect v = { s with window := { s.window with ctxSelect := sel } } := by
  rw [toNat_and_31] at h
  have hlt : (v.extractLsb' 0 5).toNat < 17 := h ▸ sel.isLt
  unfold State.writeCtxSelect
  rw [dif_pos hlt]
  simp only [h]

theorem State.writeCtxSelect_of_le {s : State} {v : Word} (h : 17 ≤ (v &&& 0x001F).toNat) :
    s.writeCtxSelect v = s := by
  rw [toNat_and_31] at h
  exact dif_neg (by omega)

/-! ### Offsets -/

/-- R183: the registers whose writes are ignored. -/
def Register.ignoresWrites : Register → Bool
  | .id | .portState | .cmdStatus | .result | .detail _ | .faultInfo | .faultRepeat | .faultAperture | .faultOffset _
  | .faultCapture _ | .errorCounter _ | .ctxState | .ctxCopy | .ctxCursor _ | .ctxGranted | .ctxBinding | .hostState
  | .hostCursor _ | .apStatus | .apFirstCol | .apLastCol | .apRows | .apMark | .reportPending _ | .unmapped => true
  | _ => false

theorem State.writeCycle_of_ignoresWrites {s : State} {r : Register} {v : Word} (h : r.ignoresWrites = true) :
    s.writeCycle r v = s := by
  cases r with
  | control | cmd | arg | drainLimit | rxLimit | intStatus | intEnable | alert | classMap | markFlags | faultCount
  | ctxSelect | hostData | apertureSelect | returnLimit => cases h
  | _ => rfl

/-- R183: the offsets of the registers that take writes, A0 aside. -/
theorem registerAt_ignoresWrites : ∀ offset : BitVec 8,
    (offset &&& 0xFE) ∉ ([0x02, 0x06, 0x08, 0x0A, 0x0C, 0x0E, 0x1A, 0x1C, 0x1E, 0x20, 0x22, 0x24, 0x26, 0x28, 0x2A,
      0x2C, 0x2E, 0x30, 0x40, 0x4C, 0x5A, 0x62, 0x78] : List (BitVec 8)) →
    (registerAt offset).ignoresWrites = true := by
  decide

theorem registerAt_arg (i : Fin 4) : registerAt (BitVec.ofNat 8 (0x08 + 2 * i.val)) = .arg i := by
  revert i; decide

theorem registerAt_rxLimit (p : Port) : registerAt (BitVec.ofNat 8 (0x1C + 2 * p.val)) = .rxLimit p := by
  revert p; decide

theorem registerAt_drainLimit : registerAt 0x1A = .drainLimit := by decide

theorem registerAt_intEnable : registerAt 0x26 = .intEnable := by decide

theorem registerAt_apertureSelect : registerAt 0x62 = .apertureSelect := by decide

/-- Settles O52: each write cycle leaves the drain as it was, so its effect is the whole next state. -/
theorem registerWritesStoreOrClear : Obligations.RegisterWritesStoreOrClear := by
  refine ⟨fun s v hs => ⟨?_, fun hi => ⟨clearMarks s.marks hi v, ?_, clearMarks_getLsbD s.marks hi v⟩, ?_,
    fun sel hsel => ?_, fun hsel => ?_, fun hi => ⟨writeClasses s.faults.classMap hi v, ?_, fun k => ?_⟩, ?_⟩,
    fun s v hs => ⟨fun i => ?_, ?_, fun p => ?_, ?_, ?_, fun offset ho => ?_⟩⟩
  · exact busCommand_write hs rfl rfl rfl (State.inFlight_of_ports rfl)
  · exact busCommand_write hs rfl rfl rfl (State.inFlight_of_ports rfl)
  · exact busCommand_write hs rfl rfl rfl (State.inFlight_of_ports rfl)
  · exact busCommand_write hs (State.writeCtxSelect_of_lt hsel) rfl rfl (State.inFlight_of_ports rfl)
  · exact busCommand_write hs (State.writeCtxSelect_of_le hsel) rfl rfl (State.inFlight_of_ports rfl)
  · exact busCommand_write hs rfl rfl rfl (State.inFlight_of_ports rfl)
  · rw [writeClasses, Bank.get_tabulate, classOf_extract]
  · refine busCommand_write hs ?_ rfl rfl (State.inFlight_of_ports rfl)
    rw [State.writeCycle, State.writeReturnLimit, extract_toFin_2]
  · rw [exec_registerWrite, registerAt_arg]
    exact busCommand_write hs rfl rfl rfl (State.inFlight_of_ports rfl)
  · rw [exec_registerWrite, registerAt_drainLimit]
    exact busCommand_write hs rfl rfl rfl (State.inFlight_of_ports rfl)
  · rw [exec_registerWrite, registerAt_rxLimit]
    exact busCommand_write hs rfl rfl rfl (State.setPort_inFlight rfl rfl)
  · rw [exec_registerWrite, registerAt_intEnable]
    exact busCommand_write hs rfl rfl rfl (State.inFlight_of_ports rfl)
  · rw [exec_registerWrite, registerAt_apertureSelect]
    refine busCommand_write hs ?_ rfl rfl (State.inFlight_of_ports rfl)
    rw [State.writeCycle, State.writeApertureSelect, extract_toFin_5]
  · rw [exec_registerWrite]
    have ignored := State.writeCycle_of_ignoresWrites (s := s) (v := v) (registerAt_ignoresWrites offset ho)
    exact busCommand_write hs ignored rfl rfl (State.inFlight_of_ports rfl)

end Sys2Proof.Machine

/-! PROOFS. Register values as fields: fields side by side are the OR of the fields, each placed at its bit. -/

namespace Sys2Proof

/-! ### Fields and their bits -/

@[simp] theorem Word.place_getLsbD (k n i : Nat) :
    (Word.place k n).getLsbD i = (decide (i < 16) && (decide (k ≤ i) && n.testBit (i - k))) := by
  simp [Word.place, BitVec.getLsbD_ofNat, Nat.testBit_mul_two_pow]

/-- A flag is a field of one bit. -/
theorem Word.bit_eq_place (k : Nat) (b : Bool) : Word.bit k b = Word.place k b.toNat := by
  cases b <;> simp [Word.bit, Word.place, BitVec.toNat_eq]

@[simp] theorem Word.bit_getLsbD (k : Nat) (b : Bool) (i : Nat) :
    (Word.bit k b).getLsbD i = (decide (i < 16) && (decide (i = k) && b)) := by
  cases b with
  | false => simp [Word.bit]
  | true =>
    have : decide (k < 16) && decide (i = k) ↔ decide (i < 16) && decide (i = k) := by simp; omega
    simpa [Word.bit, eq_comm (a := k)] using Bool.eq_iff_iff.mpr this

@[simp] theorem Word.place_getElem (k n : Nat) {i : Nat} (h : i < 16) :
    (Word.place k n)[i] = (decide (k ≤ i) && n.testBit (i - k)) := by
  simp [← BitVec.getLsbD_eq_getElem, h]

@[simp] theorem Word.bit_getElem (k : Nat) (b : Bool) {i : Nat} (h : i < 16) :
    (Word.bit k b)[i] = (decide (i = k) && b) := by
  simp [← BitVec.getLsbD_eq_getElem, h]

@[simp] theorem Word.place_zero_number (k : Nat) : Word.place k 0 = 0 := by
  simp [Word.place]

theorem Word.place_at_zero (n : Nat) : Word.place 0 n = BitVec.ofNat 16 n := by
  simp [Word.place]

theorem Word.place_toNat (v : Word) : Word.place 0 v.toNat = v := by
  simp [Word.place_at_zero]

/-- Two fields side by side. -/
theorem Word.place_append (k : Nat) {m w : Nat} (y : BitVec m) (x : BitVec w) :
    Word.place k (y ++ x).toNat = Word.place (k + w) y.toNat ||| Word.place k x.toNat := by
  apply BitVec.eq_of_getLsbD_eq
  intro i hi
  simp only [BitVec.getLsbD_or, Word.place_getLsbD, BitVec.testBit_toNat, BitVec.getLsbD_append, hi, decide_true,
    Bool.true_and]
  by_cases hk : k ≤ i
  · by_cases hw : i - k < w
    · have : ¬ k + w ≤ i := by omega
      simp [hk, hw, this]
    · have h1 : k + w ≤ i := by omega
      have h2 : i - k - w = i - (k + w) := by omega
      simp [hk, hw, h1, h2, BitVec.getLsbD_of_ge x (i - k) (Nat.not_lt.mp hw)]
  · have : ¬ k + w ≤ i := by omega
    simp [hk, this]

/-- A number that a field is wide enough for. -/
theorem Word.place_ofNat (k : Nat) {w n : Nat} (h : n < 2 ^ w) :
    Word.place k (BitVec.ofNat w n).toNat = Word.place k n := by
  rw [BitVec.toNat_ofNat, Nat.mod_eq_of_lt h]

/-- A bit of an OR over a list is set where it is set in one of the words that take part. -/
theorem Word.foldl_or_getLsbD {α : Type} (l : List α) (c : α → Prop) [DecidablePred c] (f : α → Word) (v : Word)
    (i : Nat) :
    (l.foldl (fun v a => if c a then v ||| f a else v) v).getLsbD i =
      (v.getLsbD i || l.any fun a => decide (c a) && (f a).getLsbD i) := by
  induction l generalizing v with
  | nil => simp
  | cons a l ih =>
    rw [List.foldl_cons, ih, List.any_cons]
    by_cases h : c a <;> simp [h, Bool.or_assoc]

end Sys2Proof

namespace Sys2Proof.Machine

/-! ### Numbers of states, as the map holds them (R185) -/

/-- R185: a link state as PORT_STATE holds it. -/
def LinkState.field : LinkState → BitVec 3
  | .off => 0
  | .waitSync => 1
  | .listening => 2
  | .turnWait => 3
  | .responding => 4

theorem LinkState.number_eq (x : LinkState) : x.number = x.field.toNat := by cases x <;> rfl

/-- R185: a head context's state as CTX_STATE holds it. -/
def HeadState.field : HeadState → BitVec 3
  | .empty => 0
  | .opened => 1
  | .ended => 2
  | .retiring => 3
  | .retired => 4

theorem HeadState.number_eq (x : HeadState) : x.number = x.field.toNat := by cases x <;> rfl

/-- R185: the host context's state as HOST_STATE holds it. -/
def HostState.field : HostState → BitVec 3
  | .closed => 0
  | .opened => 1
  | .ended => 2
  | .retired => 4

theorem HostState.number_eq (x : HostState) : x.number = x.field.toNat := by cases x <;> rfl

/-- R165: a class as CLASS_MAP holds it. -/
def FaultClass.field : FaultClass → BitVec 2
  | .class0 => 0
  | .class1 => 1
  | .class2 => 2

theorem FaultClass.number_eq (x : FaultClass) : x.number = x.field.toNat := by cases x <;> rfl

/-- R186: a result code as RESULT holds it. -/
def ResultCode.word : ResultCode → Word
  | .none => 0
  | .done => 1
  | .doneForced => 2
  | .badCommand => 3
  | .badIndex => 4
  | .badGeometry => 5
  | .badMark => 6
  | .badRights => 7
  | .noAperture => 8
  | .inUse => 9
  | .alreadyBound => 10
  | .notBound => 11
  | .contextLive => 12
  | .badScope => 13
  | .notSuspended => 14

theorem ResultCode.number_eq (x : ResultCode) : x.number = x.word.toNat := by cases x <;> rfl

/-- R185: a rights pair, WRITE above READ. -/
def Rights.field (a : Rights) : BitVec 2 := BitVec.ofBool a.write ++ BitVec.ofBool a.read

theorem Rights.number_eq (a : Rights) : a.number = a.field.toNat := by
  obtain ⟨r, w⟩ := a
  cases r <;> cases w <;> rfl

/-- R40: the aperture index of a copy. -/
def indexField : Option Copy → BitVec 5
  | some k => BitVec.ofNat 5 k.aperture.val
  | none => 0

theorem copyIndex_eq (k : Option Copy) : copyIndex k = (indexField k).toNat := by
  cases k with
  | none => rfl
  | some k => exact (Nat.mod_eq_of_lt k.aperture.isLt).symm

/-- R40: the generation of a copy. -/
def generationField : Option Copy → BitVec 8
  | some k => k.generation
  | none => 0

theorem copyGeneration_eq (k : Option Copy) : copyGeneration k = (generationField k).toNat := by cases k <;> rfl

/-- R185: the granted rights of a copy. -/
def rightsField : Option Copy → BitVec 2
  | some k => k.granted.field
  | none => 0

theorem copyRights_eq (k : Option Copy) : copyRights k = (rightsField k).toNat := by
  cases k with
  | none => rfl
  | some k => exact k.granted.number_eq

end Sys2Proof.Machine

/-! PROOFS. The outputs (R38, R157, R177 to R179), and what every register of the map shows (R183 to R187). -/

namespace Sys2Proof.Machine

/-! ### The pins -/

theorem Word.ne_zero_iff (v : Word) : (v != 0) = true ↔ ∃ i, v.getLsbD i = true := by
  rw [bne_iff_ne, ne_eq, ← not_iff_not, not_not]
  push Not
  constructor
  · rintro rfl i
    simp
  · intro h
    refine BitVec.eq_of_getLsbD_eq fun i _ => ?_
    simpa using h i

/-- R177: the places of the sources in INT_STATUS. -/
theorem State.intSources_low (s : State) :
    s.intSources.getLsbD 0 = s.faultSource ∧ s.intSources.getLsbD 1 = s.interrupts.overflow ∧
      s.intSources.getLsbD 2 = s.interrupts.cmdDone ∧ s.intSources.getLsbD 3 = s.markSource := by
  simp [State.intSources]

theorem State.intSources_line (s : State) (p : Port) :
    s.intSources.getLsbD (4 + p.val) = s.interrupts.line.get p := by
  fin_cases p <;> simp [State.intSources]

theorem State.intSources_suspend (s : State) (p : Port) :
    s.intSources.getLsbD (8 + p.val) = s.interrupts.suspend.get p := by
  fin_cases p <;> simp [State.intSources]

theorem State.intSources_counter (s : State) : s.intSources.getLsbD 12 = s.interrupts.counter := by
  simp [State.intSources]

theorem State.intSources_high (s : State) {i : Nat} (hi : 13 ≤ i) : s.intSources.getLsbD i = false := by
  simp [State.intSources]
  omega

/-- R178: INT is asserted where a source and its enable bit are set. -/
theorem State.int_iff {s : State} (hs : s.inReset = false) :
    s.int = true ↔ ∃ i, s.intSources.getLsbD i = true ∧ s.interrupts.enable.getLsbD i = true := by
  have enabled (i : Nat) : (s.intSources &&& s.interrupts.enable.zeroExtend 16).getLsbD i =
      (s.intSources.getLsbD i && s.interrupts.enable.getLsbD i) := by
    by_cases hi : i < 16
    · simp [hi]
    · simp [BitVec.getLsbD_of_ge s.intSources i (Nat.not_lt.mp hi)]
  simp only [State.int, hs, Bool.not_false, Bool.true_and, Word.ne_zero_iff, enabled, Bool.and_eq_true]

theorem State.faultSource_iff (s : State) : s.faultSource = true ↔ s.faults.queue ≠ [] := by
  simp [State.faultSource]

theorem State.markSource_iff (s : State) : s.markSource = true ↔ s.marks ≠ 0 := by
  simp [State.markSource]

/-- The places of INT_STATUS: four on their own, four of the ports' lines, four of their suspensions, and one. -/
theorem intPlace_cases (i : Nat) :
    i = 0 ∨ i = 1 ∨ i = 2 ∨ i = 3 ∨ (∃ p : Port, i = 4 + p.val) ∨ (∃ p : Port, i = 8 + p.val) ∨ i = 12 ∨ 13 ≤ i := by
  by_cases h1 : i < 4
  · omega
  · by_cases h2 : i < 8
    · exact .inr (.inr (.inr (.inr (.inl ⟨⟨i - 4, by omega⟩, by simp; omega⟩))))
    · by_cases h3 : i < 12
      · exact .inr (.inr (.inr (.inr (.inr (.inl ⟨⟨i - 8, by omega⟩, by simp; omega⟩)))))
      · omega

theorem State.int_iff_sources {s : State} (hs : s.inReset = false) :
    s.int = true ↔
      (s.faults.queue ≠ [] ∧ s.interrupts.enable.getLsbD 0 = true) ∨
      (s.interrupts.overflow = true ∧ s.interrupts.enable.getLsbD 1 = true) ∨
      (s.interrupts.cmdDone = true ∧ s.interrupts.enable.getLsbD 2 = true) ∨
      (s.marks ≠ 0 ∧ s.interrupts.enable.getLsbD 3 = true) ∨
      (∃ p : Port, s.interrupts.line.get p = true ∧ s.interrupts.enable.getLsbD (4 + p.val) = true) ∨
      (∃ p : Port, s.interrupts.suspend.get p = true ∧ s.interrupts.enable.getLsbD (8 + p.val) = true) ∨
      (s.interrupts.counter = true ∧ s.interrupts.enable.getLsbD 12 = true) := by
  obtain ⟨h0, h1, h2, h3⟩ := s.intSources_low
  rw [State.int_iff hs, ← s.faultSource_iff, ← s.markSource_iff, ← h0, ← h1, ← h2, ← h3, ← s.intSources_counter]
  simp only [← s.intSources_line, ← s.intSources_suspend]
  constructor
  · rintro ⟨i, h, he⟩
    obtain rfl | rfl | rfl | rfl | ⟨p, rfl⟩ | ⟨p, rfl⟩ | rfl | hi := intPlace_cases i
    · exact .inl ⟨h, he⟩
    · exact .inr (.inl ⟨h, he⟩)
    · exact .inr (.inr (.inl ⟨h, he⟩))
    · exact .inr (.inr (.inr (.inl ⟨h, he⟩)))
    · exact .inr (.inr (.inr (.inr (.inl ⟨p, h, he⟩))))
    · exact .inr (.inr (.inr (.inr (.inr (.inl ⟨p, h, he⟩)))))
    · exact .inr (.inr (.inr (.inr (.inr (.inr ⟨h, he⟩)))))
    · exact absurd h (by simp [s.intSources_high hi])
  · rintro (h | h | h | h | ⟨p, h⟩ | ⟨p, h⟩ | h) <;> exact ⟨_, h⟩

/-- R38. -/
theorem isStale_some_iff (apertures : Bank 32 Aperture) (k : Copy) :
    isStale apertures (some k) = true ↔
      (apertures.get k.aperture).isDefined = false ∨ (apertures.get k.aperture).generation ≠ k.generation := by
  cases h : (apertures.get k.aperture).isDefined <;> simp [isStale, h]

/-! ### Registers of the ports, the command unit and the interrupt unit -/

theorem State.readControl_getLsbD (s : State) (p : Port) : s.readControl.getLsbD p.val = (s.port p).enabled := by
  fin_cases p <;> simp [State.readControl, allPorts]

theorem State.readControl_high (s : State) : s.readControl.extractLsb' 4 12 = 0 := by
  refine BitVec.eq_of_getLsbD_eq fun i _ => ?_
  simp [State.readControl, allPorts]
  omega

theorem State.readPortState_field (s : State) (p : Port) :
    s.readPortState.extractLsb' (4 * p.val) 4 =
      BitVec.ofBool ((s.port p).mode == .suspended) ++ (s.port p).link.field := by
  refine BitVec.eq_of_getLsbD_eq fun i hi => ?_
  rw [BitVec.getLsbD_append]
  fin_cases p <;> interval_cases i <;>
    simp [State.readPortState, allPorts, LinkState.number_eq, BitVec.testBit_toNat, -Nat.testBit_zero]

theorem State.readCmdStatus_eq (s : State) :
    s.readRegister .cmdStatus = 0#14 ++ BitVec.ofBool s.command.collision ++ BitVec.ofBool s.command.busy := by
  refine Eq.trans ?_ (Word.place_toNat _)
  simp only [State.readRegister, Word.place_append, Word.bit_eq_place]
  simp [BitVec.or_comm]

theorem State.readResult_eq (s : State) : s.readRegister .result = s.command.result.word :=
  (congrArg (Word.place 0) s.command.result.number_eq).trans (Word.place_toNat _)

theorem State.readIntStatus_low (s : State) :
    s.intSources.extractLsb' 0 4 =
      BitVec.ofBool (s.marks != 0) ++ BitVec.ofBool s.interrupts.cmdDone ++ BitVec.ofBool s.interrupts.overflow ++
        BitVec.ofBool (!s.faults.queue.isEmpty) := by
  obtain ⟨h0, h1, h2, h3⟩ := s.intSources_low
  refine BitVec.eq_of_getLsbD_eq fun i hi => ?_
  rw [BitVec.getLsbD_append, BitVec.getLsbD_append, BitVec.getLsbD_append, BitVec.getLsbD_extractLsb']
  interval_cases i <;> simp [-BitVec.getLsbD_eq_getElem, h0, h1, h2, h3, State.faultSource, State.markSource]

theorem State.readIntStatus_high (s : State) :
    s.intSources.extractLsb' 12 4 = 0#3 ++ BitVec.ofBool s.interrupts.counter := by
  refine BitVec.eq_of_getLsbD_eq fun i hi => ?_
  rw [BitVec.getLsbD_append, BitVec.getLsbD_extractLsb']
  interval_cases i <;> simp [-BitVec.getLsbD_eq_getElem, s.intSources_counter, s.intSources_high]

theorem State.readAlert_eq (s : State) : s.readRegister .alert = 0#15 ++ BitVec.ofBool s.faults.alert := by
  refine Eq.trans ?_ (Word.place_toNat _)
  simp only [State.readRegister, Word.place_append, Word.bit_eq_place]
  simp

/-! ### The class map and the mark flags -/

theorem readClasses_field (map : Bank 16 FaultClass) (k : Fin 16) :
    (readClasses map (decide (8 ≤ k.val))).extractLsb' (2 * (k.val % 8)) 2 = (map.get k).field := by
  refine BitVec.eq_of_getLsbD_eq fun i hi => ?_
  rw [BitVec.getLsbD_extractLsb', readClasses, Word.foldl_or_getLsbD, Bool.eq_iff_iff]
  simp only [FaultClass.number_eq, Word.place_getLsbD, BitVec.testBit_toNat, Bool.and_eq_true, Bool.or_eq_true,
    List.any_eq_true, decide_eq_true_eq, List.mem_finRange, true_and]
  constructor
  · rintro ⟨-, h | ⟨k', hk', -, hle, hbit⟩⟩
    · simp at h
    · have hlt := BitVec.lt_of_getLsbD hbit
      have hkk : k' = k := by
        rw [decide_eq_decide] at hk'
        exact Fin.ext (by omega)
      subst hkk
      simpa using hbit
  · intro h
    exact ⟨hi, .inr ⟨k, rfl, by omega, by omega, by simpa using h⟩⟩

theorem registerAt_classMap (k : Fin 16) :
    registerAt (if 8 ≤ k.val then 0x2C else 0x2A) = .classMap (decide (8 ≤ k.val)) := by
  revert k; decide

theorem registerAt_markFlags (n : ApIndex) :
    registerAt (if 16 ≤ n.val then 0x30 else 0x2E) = .markFlags (decide (16 ≤ n.val)) := by
  revert n; decide

theorem State.readMarks_getLsbD (s : State) (n : ApIndex) :
    (s.readRegister (.markFlags (decide (16 ≤ n.val)))).getLsbD (n.val % 16) = s.marks.getLsbD n.val := by
  have hmod : n.val % 16 < 16 := Nat.mod_lt _ (by decide)
  by_cases h : 16 ≤ n.val
  · have : 16 + n.val % 16 = n.val := by omega
    simp [State.readRegister, h, hmod, this]
  · have : n.val % 16 = n.val := Nat.mod_eq_of_lt (by omega)
    simp [State.readRegister, h, this]
    omega

/-! ### The FAULT window -/

theorem State.faultWindow_nil {s : State} (h : s.faults.queue = []) (f : FaultRecord → Word) :
    s.faultWindow f = 0 := by
  simp [State.faultWindow, h]

theorem State.faultWindow_cons {s : State} {r : FaultRecord} {rest : List FaultRecord} (h : s.faults.queue = r :: rest)
    (f : FaultRecord → Word) : s.faultWindow f = f r := by
  simp [State.faultWindow, h]

/-- The stream of a claim, 0 without one (R187). -/
def streamField : Option Stream → BitVec 2
  | some t => BitVec.ofNat 2 t.val
  | none => 0

/-- The packet type of a claim, 0 without a packet (R187). -/
def typeField : Option PacketRef → Byte
  | some k => k.type
  | none => 0

theorem FaultRecord.info_eq (r : FaultRecord) :
    r.info = 0#3 ++ BitVec.ofBool r.claim.packet.isSome ++ BitVec.ofBool r.claim.walk.isSome ++
      BitVec.ofBool r.claim.stream.isSome ++ streamField r.claim.stream ++ 0#1 ++
      BitVec.ofNat 3 r.claim.source.number.val ++ BitVec.ofNat 4 r.claim.kind.number.val := by
  have h3 : r.claim.source.number.val < 2 ^ 3 := by omega
  have h4 : r.claim.kind.number.val < 2 ^ 4 := r.claim.kind.number.isLt
  refine Eq.trans ?_ (Word.place_toNat _)
  simp only [FaultRecord.info, Word.place_append, Word.bit_eq_place, Word.place_ofNat _ h3, Word.place_ofNat _ h4]
  cases r.claim.stream with
  | none =>
    simp [streamField]
    ac_rfl
  | some t =>
    simp only [streamField, Word.place_ofNat _ (show t.val < 2 ^ 2 from t.isLt)]
    simp
    ac_rfl

theorem FaultRecord.repeatWord_eq {r : FaultRecord} (h : r.repeats ≤ 255) :
    r.repeatWord = typeField r.claim.packet ++ BitVec.ofNat 8 r.repeats := by
  have h8 : r.repeats < 2 ^ 8 := by omega
  refine Eq.trans ?_ (Word.place_toNat _)
  simp only [FaultRecord.repeatWord, Word.place_append, Word.place_ofNat _ h8]
  cases r.claim.packet <;> simp [typeField, BitVec.or_comm]

theorem FaultRecord.apertureWord_eq {r : FaultRecord} {w : WalkPoint} (h : r.claim.walk = some w) :
    r.apertureWord = 0#11 ++ BitVec.ofNat 5 w.aperture.val := by
  have h5 : w.aperture.val < 2 ^ 5 := w.aperture.isLt
  refine Eq.trans ?_ (Word.place_toNat _)
  simp only [FaultRecord.apertureWord, h, Word.place_append, Word.place_ofNat _ h5]
  simp

/-- A value of fewer bits, read with zeros above. -/
theorem zeroExtend_eq_append {w : Nat} (x : BitVec w) (h : w ≤ 16) :
    x.zeroExtend 16 = (0#(16 - w) ++ x).cast (by omega) := BitVec.setWidth_eq_append h

theorem FaultRecord.offsetWord_lo {r : FaultRecord} {w : WalkPoint} (h : r.claim.walk = some w) :
    r.offsetWord false = BitVec.ofNat 16 w.offset := by
  simp [FaultRecord.offsetWord, h, lowHalf]

theorem FaultRecord.offsetWord_hi {r : FaultRecord} {w : WalkPoint} (h : r.claim.walk = some w) :
    r.offsetWord true = 0#13 ++ BitVec.ofNat 3 (w.offset / 65536) := by
  simp only [FaultRecord.offsetWord, h, if_true]
  exact zeroExtend_eq_append (highBits w.offset) (by decide)

/-- R187: a record without an aperture shows 0 in its places. -/
theorem FaultRecord.walk_none {r : FaultRecord} (h : r.claim.walk = none) :
    r.apertureWord = 0 ∧ ∀ hi, r.offsetWord hi = 0 := by
  simp [FaultRecord.apertureWord, FaultRecord.offsetWord, h]

/-- R187: a record without a packet shows 0 in its places. -/
theorem FaultRecord.captureWord_none {r : FaultRecord} (h : r.claim.packet = none) (hi : Bool) :
    r.captureWord hi = 0 := by
  simp [FaultRecord.captureWord, h]

theorem FaultRecord.captureWord_append {r : FaultRecord} {k : PacketRef} (h : r.claim.packet = some k) :
    r.captureWord true ++ r.captureWord false = k.capture := by
  simp only [FaultRecord.captureWord, h, if_true, headerParameter]
  exact BitVec.extractLsb'_append_extractLsb' (w := 16) (len := 16)

/-! ### The other registers -/

theorem ErrorCounter.word_eq {c : ErrorCounter} (h : c.count ≤ 127) :
    c.word = 0#8 ++ BitVec.ofBool c.overflow ++ BitVec.ofNat 7 c.count := by
  have h7 : c.count < 2 ^ 7 := by omega
  refine Eq.trans ?_ (Word.place_toNat _)
  simp only [ErrorCounter.word, Word.bit_eq_place, Word.place_append, Word.place_ofNat _ h7]
  simp [BitVec.or_comm]

theorem State.readApStatus_eq (s : State) :
    s.readApStatus = s.selectedAperture.generation ++ 0#3 ++ BitVec.ofBool s.selectedAperture.rights.write ++
      BitVec.ofBool s.selectedAperture.rights.read ++ BitVec.ofBool (s.selectedAperture.geometry.policy == .loop) ++
      BitVec.ofBool (s.selectedAperture.geometry.order == .columns) ++ BitVec.ofBool s.selectedAperture.isDefined := by
  refine Eq.trans ?_ (Word.place_toNat _)
  simp only [State.readApStatus, Word.bit_eq_place, Rights.number_eq, Rights.field, Word.place_append]
  simp
  ac_rfl

theorem State.readReturnLimit_eq {s : State} (h : (s.port s.window.returnLimitSelect).returnLimit ≤ 512) :
    s.readReturnLimit = 0#2 ++ BitVec.ofNat 2 s.window.returnLimitSelect.val ++ 0#2 ++
      BitVec.ofNat 10 (s.port s.window.returnLimitSelect).returnLimit := by
  have h10 : (s.port s.window.returnLimitSelect).returnLimit < 2 ^ 10 := by omega
  have h2 : s.window.returnLimitSelect.val < 2 ^ 2 := s.window.returnLimitSelect.isLt
  refine Eq.trans ?_ (Word.place_toNat _)
  simp only [State.readReturnLimit, Word.place_append, Word.place_ofNat _ h10, Word.place_ofNat _ h2]
  simp [BitVec.or_comm]

/-! ### The context window -/

theorem selectedContext_head {sel : Fin 17} {p : Port} {t : Stream} (h : sel.val = 4 * p.val + t.val) :
    selectedContext sel = .head p t := by
  have hp : (⟨sel.val / 4, by omega⟩ : Port) = p := Fin.ext (by simp; omega)
  have ht : (⟨sel.val % 4, by omega⟩ : Stream) = t := Fin.ext (by simp; omega)
  rw [selectedContext, dif_pos (by omega), hp, ht]

theorem selectedContext_host {sel : Fin 17} (h : sel.val = 16) : selectedContext sel = .host :=
  dif_neg (by omega)

section
variable {s : State} {p : Port} {t : Stream} (hsel : selectedContext s.window.ctxSelect = .head p t)
include hsel

theorem State.readCtxState_head (hi : s.inFlight p t ≤ 4) :
    s.readCtxState = 0#3 ++ indexField (s.context p t).copy ++ BitVec.ofNat 3 (s.inFlight p t) ++
      BitVec.ofBool (isStale s.apertures (s.context p t).copy) ++ BitVec.ofBool (s.context p t).endIndicator ++
      (s.context p t).state.field := by
  have h3 : s.inFlight p t < 2 ^ 3 := by omega
  refine Eq.trans ?_ (Word.place_toNat _)
  simp only [State.readCtxState, hsel, Word.place_append, Word.bit_eq_place, Word.place_ofNat _ h3,
    HeadState.number_eq, copyIndex_eq]
  simp
  ac_rfl

theorem State.readCtxCopy_head :
    s.readCtxCopy = (s.context p t).passes ++ generationField (s.context p t).copy := by
  refine Eq.trans ?_ (Word.place_toNat _)
  simp only [State.readCtxCopy, hsel, Word.place_append, copyGeneration_eq]
  simp [BitVec.or_comm]

theorem State.selectedCursor_head : s.selectedCursor = (s.context p t).cursor := by
  simp [State.selectedCursor, hsel]

theorem State.readCtxGranted_head : s.readCtxGranted = 0#14 ++ rightsField (s.context p t).copy := by
  refine Eq.trans ?_ (Word.place_toNat _)
  simp only [State.readCtxGranted, hsel, Word.place_append, copyRights_eq]
  simp

theorem State.readCtxBinding_some {b : Binding} (hb : s.slot p t = some b) :
    s.readCtxBinding = 1#1 ++ 0#2 ++ BitVec.ofNat 5 b.aperture.val ++ 0#6 ++ BitVec.ofBool b.rights.write ++
      BitVec.ofBool b.rights.read := by
  have h5 : b.aperture.val < 2 ^ 5 := b.aperture.isLt
  refine Eq.trans ?_ (Word.place_toNat _)
  simp only [State.readCtxBinding, hsel, hb, Word.place_append, Word.bit_eq_place, Word.place_ofNat _ h5,
    Rights.number_eq, Rights.field]
  simp
  ac_rfl

theorem State.readCtxBinding_none (hb : s.slot p t = none) : s.readCtxBinding = 0 := by
  simp [State.readCtxBinding, hsel, hb]

end

section
variable {s : State} (hsel : selectedContext s.window.ctxSelect = .host)
include hsel

theorem State.readCtxState_host :
    s.readCtxState = 0#3 ++ indexField s.hostContext.copy ++ 0#3 ++
      BitVec.ofBool (isStale s.apertures s.hostContext.copy) ++ 0#1 ++ s.hostContext.state.field := by
  refine Eq.trans ?_ (Word.place_toNat _)
  simp only [State.readCtxState, hsel, Word.place_append, Word.bit_eq_place, HostState.number_eq, copyIndex_eq]
  simp
  ac_rfl

theorem State.readCtxCopy_host : s.readCtxCopy = s.hostContext.passes ++ generationField s.hostContext.copy := by
  refine Eq.trans ?_ (Word.place_toNat _)
  simp only [State.readCtxCopy, hsel, Word.place_append, copyGeneration_eq]
  simp [BitVec.or_comm]

theorem State.selectedCursor_host : s.selectedCursor = s.hostContext.cursor := by
  simp [State.selectedCursor, hsel]

theorem State.readCtxGranted_host : s.readCtxGranted = 0#14 ++ rightsField s.hostContext.copy := by
  refine Eq.trans ?_ (Word.place_toNat _)
  simp only [State.readCtxGranted, hsel, Word.place_append, copyRights_eq]
  simp

theorem State.readCtxBinding_host : s.readCtxBinding = 0 := by
  simp [State.readCtxBinding, hsel]

end

theorem State.readHostState_eq (s : State) :
    s.readHostState = rightsField s.hostContext.copy ++ 0#1 ++ indexField s.hostContext.copy ++ 0#3 ++
      BitVec.ofBool (isStale s.apertures s.hostContext.copy) ++ 0#1 ++ s.hostContext.state.field := by
  refine Eq.trans ?_ (Word.place_toNat _)
  simp only [State.readHostState, Word.place_append, Word.bit_eq_place, HostState.number_eq, copyIndex_eq,
    copyRights_eq]
  simp
  ac_rfl

/-! ### Offsets (R183) -/

theorem registerAt_detail (i : Fin 3) : registerAt (BitVec.ofNat 8 (0x14 + 2 * i.val)) = .detail i := by
  revert i; decide

theorem registerAt_reportPending (p : Port) : registerAt (BitVec.ofNat 8 (0x70 + 2 * p.val)) = .reportPending p := by
  revert p; decide

theorem registerAt_errorCounter (q : Source) :
    registerAt (BitVec.ofNat 8 (0x42 + 2 * q.number.val)) = .errorCounter q := by
  cases q with
  | port p => revert p; decide
  | host => decide

theorem registerAt_unmapped {offset : BitVec 8} (h : 0x7A ≤ offset.toNat) : registerAt offset = .unmapped := by
  revert offset; decide

/-- R180: there is no A0 on the bus. -/
theorem registerAt_and_FE (offset : BitVec 8) : registerAt (offset &&& 0xFE) = registerAt offset := by
  have word : ∀ offset : BitVec 8, (offset &&& 0xFE).toNat / 2 = offset.toNat / 2 := by decide
  simp only [registerAt, word]

/-- Settles O53: the sources, and each register's fields placed at their bits. -/
theorem outputsFollowTheState : Obligations.OutputsFollowTheState := by
  refine ⟨fun s hs => ⟨State.int_iff_sources hs, ?_, ?_, rfl, isStale_some_iff s.apertures⟩, ?_, ?_⟩
  · simp [State.alertPin, hs]
  · simp [State.wait, hs, Option.isSome_iff_ne_none]
  · intro s read
    have hread (offset : BitVec 8) : read offset = s.readRegister (registerAt offset) := rfl
    refine ⟨rfl, ⟨s.readControl_getLsbD, s.readControl_high⟩, s.readPortState_field, rfl, fun i => ?_,
      s.readCmdStatus_eq, s.readResult_eq, fun i => ?_, ?_, fun p => ?_,
      ⟨s.readIntStatus_low, fun p => ⟨s.intSources_line p, s.intSources_suspend p⟩, s.readIntStatus_high⟩, ?_,
      s.readAlert_eq, fun k => ?_, fun n => ?_, ⟨fun h => ?_, fun r rest h hr => ?_⟩, ?_, fun q hq => ?_, ?_,
      ⟨s.readApStatus_eq, ?_, ?_, rfl, ?_⟩, fun p => ?_, fun h => ?_, rfl, fun offset ho => ?_, fun offset => ?_⟩
    · rw [hread, registerAt_arg]
      rfl
    · rw [hread, registerAt_detail]
      exact zeroExtend_eq_append (s.command.details.get i) (by decide)
    · exact zeroExtend_eq_append s.retire.drainLimit (by decide)
    · rw [hread, registerAt_rxLimit]
      rfl
    · exact zeroExtend_eq_append s.interrupts.enable (by decide)
    · rw [hread, registerAt_classMap]
      exact readClasses_field s.faults.classMap k
    · rw [hread, registerAt_markFlags]
      exact s.readMarks_getLsbD n
    · simp only [List.forall_mem_cons]
      have empty := State.faultWindow_nil h
      exact ⟨empty _, empty _, empty _, empty _, empty _, empty _, empty _, nofun⟩
    · have head := State.faultWindow_cons h
      refine ⟨(head _).trans r.info_eq, (head _).trans (FaultRecord.repeatWord_eq hr), fun w hw =>
        ⟨(head _).trans (FaultRecord.apertureWord_eq hw), (head _).trans (FaultRecord.offsetWord_lo hw),
          (head _).trans (FaultRecord.offsetWord_hi hw)⟩, fun hw => ?_, fun k hk => ?_, fun hk => ?_⟩
      · obtain ⟨haperture, hoffset⟩ := FaultRecord.walk_none hw
        exact ⟨(head _).trans haperture, (head _).trans (hoffset false), (head _).trans (hoffset true)⟩
      · exact (congrArg₂ HAppend.hAppend (head _) (head _)).trans (FaultRecord.captureWord_append hk)
      · have hcapture := FaultRecord.captureWord_none hk
        exact ⟨(head _).trans (hcapture false), (head _).trans (hcapture true)⟩
    · exact Word.place_at_zero _
    · rw [hread, registerAt_errorCounter]
      exact ErrorCounter.word_eq hq
    · exact Word.place_at_zero _
    · exact zeroExtend_eq_append s.selectedAperture.geometry.firstColumn (by decide)
    · exact zeroExtend_eq_append s.selectedAperture.geometry.lastColumn (by decide)
    · exact zeroExtend_eq_append s.selectedAperture.geometry.mark (by decide)
    · rw [hread, registerAt_reportPending]
      rfl
    · exact State.readReturnLimit_eq h
    · rw [hread, registerAt_unmapped ho]
      rfl
    · rw [hread, hread, registerAt_and_FE]
  · intro s read index generation rights host
    refine ⟨Word.place_at_zero _, ?_, fun p t h hi => ?_, fun h => ?_, s.readHostState_eq, rfl, ?_⟩
    · exact zeroExtend_eq_append s.window.ctxHold (by decide)
    · have hsel := selectedContext_head h
      exact ⟨State.readCtxState_head hsel hi, State.readCtxCopy_head hsel,
        congrArg lowHalf (State.selectedCursor_head hsel), State.readCtxGranted_head hsel,
        fun b => State.readCtxBinding_some hsel, State.readCtxBinding_none hsel⟩
    · have hsel := selectedContext_host h
      exact ⟨State.readCtxState_host hsel, State.readCtxCopy_host hsel,
        congrArg lowHalf (State.selectedCursor_host hsel), State.readCtxGranted_host hsel,
        State.readCtxBinding_host hsel⟩
    · exact zeroExtend_eq_append s.window.hostHold (by decide)

end Sys2Proof.Machine

/-! PROOFS. Contexts: one advance of a cursor (R36, R37), the same change to many head contexts, and the end of a drain
(R144). -/

namespace Sys2Proof.Machine

/-! ### One advance (R36, R37) -/

theorem Geometry.size_pos (g : Geometry) : 0 < g.size := Nat.mul_pos g.width_pos g.height_pos

section
variable {c : HeadContext} {k : Copy} (hk : c.copy = some k)
include hk

theorem HeadContext.advance_of_lt (h : c.cursor + 1 < k.geometry.size) :
    c.advance = { c with cursor := c.cursor + 1 } := by
  simp [HeadContext.advance, hk, h]

theorem HeadContext.advance_of_loop (h : c.cursor + 1 = k.geometry.size) (hp : k.geometry.policy = .loop) :
    c.advance = { c with cursor := 0, passes := c.passes + 1 } := by
  simp [HeadContext.advance, hk, h, hp]

theorem HeadContext.advance_of_stop_opened (h : c.cursor + 1 = k.geometry.size) (hp : k.geometry.policy = .stop)
    (ho : c.state = .opened) : c.advance = { c with cursor := k.geometry.size, state := .ended } := by
  simp [HeadContext.advance, hk, h, hp, ho]

theorem HeadContext.advance_of_stop_retiring (h : c.cursor + 1 = k.geometry.size) (hp : k.geometry.policy = .stop)
    (hr : c.state = .retiring) : c.advance = { c with cursor := k.geometry.size, endIndicator := true } := by
  simp [HeadContext.advance, hk, h, hp, hr]

theorem HeadContext.advance_of_le (h : k.geometry.size ≤ c.cursor) : c.advance = c := by
  have h1 : ¬ c.cursor + 1 < k.geometry.size := by omega
  have h2 : c.cursor + 1 ≠ k.geometry.size := by omega
  simp [HeadContext.advance, hk, h1, h2]

end

section
variable {c : HostContext} {k : Copy} (hk : c.copy = some k)
include hk

theorem HostContext.advance_of_lt (h : c.cursor + 1 < k.geometry.size) :
    c.advance = { c with cursor := c.cursor + 1 } := by
  simp [HostContext.advance, hk, h]

theorem HostContext.advance_of_loop (h : c.cursor + 1 = k.geometry.size) (hp : k.geometry.policy = .loop) :
    c.advance = { c with cursor := 0, passes := c.passes + 1 } := by
  simp [HostContext.advance, hk, h, hp]

theorem HostContext.advance_of_stop (h : c.cursor + 1 = k.geometry.size) (hp : k.geometry.policy = .stop) :
    c.advance = { c with cursor := k.geometry.size, state := .ended } := by
  simp [HostContext.advance, hk, h, hp]

theorem HostContext.advance_of_le (h : k.geometry.size ≤ c.cursor) : c.advance = c := by
  have h1 : ¬ c.cursor + 1 < k.geometry.size := by omega
  have h2 : c.cursor + 1 ≠ k.geometry.size := by omega
  simp [HostContext.advance, hk, h1, h2]

end

/-- Settles O19: the branches of the advance, for a head context and for the host context. -/
theorem cursorAdvancesByPolicy : Obligations.CursorAdvancesByPolicy :=
  ⟨fun _ _ hk => ⟨HeadContext.advance_of_lt hk, HeadContext.advance_of_loop hk, HeadContext.advance_of_stop_opened hk,
    HeadContext.advance_of_stop_retiring hk⟩,
   fun _ _ hk => ⟨HostContext.advance_of_lt hk, HostContext.advance_of_loop hk, HostContext.advance_of_stop hk⟩⟩

/-! ### Many head contexts at once -/

/-- The state with every head context given. -/
def State.withContexts (s : State) (f : Port → Stream → HeadContext) : State :=
  { s with contexts := Bank.tabulate fun p => Bank.tabulate fun t => f p t }

@[simp] theorem State.withContexts_context (s : State) (f : Port → Stream → HeadContext) (p : Port) (t : Stream) :
    (s.withContexts f).context p t = f p t := by
  simp [State.withContexts, State.context]

theorem State.withContexts_id (s : State) : (s.withContexts fun p t => s.context p t) = s := by
  have : (Bank.tabulate fun p => Bank.tabulate fun t => s.context p t) = s.contexts :=
    Bank.ext_get fun p => Bank.ext_get fun t => by simp [State.context]
  simp [State.withContexts, this]

/-- An operation that changes one head context, done for each context of a list, changes the contexts of the list. What
it does to a context may depend on the ports. -/
theorem foldl_setContext {ports : Bank 4 PortState} {f : State → Port × Stream → State}
    {g : Port × Stream → HeadContext → HeadContext}
    (hf : ∀ (s : State) (h : Port × Stream), s.ports = ports →
      f s h = s.setContext h.1 h.2 (g h (s.context h.1 h.2)))
    {l : List (Port × Stream)} (hl : l.Nodup) (s : State) (hs : s.ports = ports) :
    l.foldl f s = s.withContexts fun p t => if (p, t) ∈ l then g (p, t) (s.context p t) else s.context p t := by
  induction l generalizing s with
  | nil => simpa using s.withContexts_id.symm
  | cons h l ih =>
    obtain ⟨hnot, hl⟩ := List.nodup_cons.mp hl
    rw [List.foldl_cons, hf s h hs, ih hl (s.setContext h.1 h.2 _) hs]
    refine congrArg s.withContexts ?_
    funext p t
    rw [State.setContext_context]
    by_cases heq : h = (p, t)
    · subst heq
      simp [hnot]
    · have hne : ¬ (h.1 = p ∧ h.2 = t) := fun e => heq (Prod.ext e.1 e.2)
      simp [hne, Ne.symm heq]

theorem allHeads_nodup : allHeads.Nodup := by decide

/-! ### The end of a drain (R144) -/

/-- R35, R144: a head context at the end of an event of a drain. -/
def State.drainedContext (s : State) (p : Port) (t : Stream) : HeadContext :=
  if (s.context p t).state = .retiring ∧ s.inFlight p t = 0 then (s.context p t).retire else s.context p t

theorem State.retireIfDrained_foldl (s : State) :
    allHeads.foldl State.retireIfDrained s = s.withContexts s.drainedContext := by
  rw [foldl_setContext (ports := s.ports) (g := fun h c => if c.state = .retiring ∧ s.inFlight h.1 h.2 = 0 then c.retire
    else c) (fun u h hu => ?_) allHeads_nodup s rfl]
  · congr 1
    funext p t
    exact if_pos (mem_allHeads p t)
  · unfold State.retireIfDrained
    rw [State.inFlight_of_ports hu]
    split
    · rfl
    · rw [State.setContext_context_id]

theorem State.drainedContext_retiring (s : State) (p : Port) (t : Stream) :
    (s.drainedContext p t).state = .retiring ↔ (s.context p t).state = .retiring ∧ s.inFlight p t ≠ 0 := by
  unfold State.drainedContext
  split
  · next h => simp [HeadContext.retire, h.2]
  · next h => exact ⟨fun hr => ⟨hr, fun h0 => h ⟨hr, h0⟩⟩, And.left⟩

/-- R144: a drain with a unit of a RETIRING context left goes on. -/
theorem State.settleDrain_of_unit {s : State} (hd : s.retire.phase = .draining)
    (h : ∃ (p : Port) (t : Stream), (s.context p t).state = .retiring ∧ s.inFlight p t ≠ 0) :
    s.settleDrain = s.withContexts s.drainedContext := by
  have left : (s.withContexts s.drainedContext).anyRetiring = true := by
    obtain ⟨p, t, h⟩ := h
    exact (State.anyRetiring_iff _).mpr ⟨p, t, by simpa using (s.drainedContext_retiring p t).mpr h⟩
  simp [State.settleDrain, hd, State.retireIfDrained_foldl, left]

/-- R144: a drain with no such unit left completes. -/
theorem State.settleDrain_of_no_unit {s : State} (hd : s.retire.phase = .draining)
    (h : ∀ (p : Port) (t : Stream), (s.context p t).state = .retiring → s.inFlight p t = 0) :
    s.settleDrain = (s.withContexts s.drainedContext).completeRetire .done := by
  have none_left : (s.withContexts s.drainedContext).anyRetiring = false := by
    rw [Bool.eq_false_iff, ne_eq, State.anyRetiring_iff]
    rintro ⟨p, t, hr⟩
    rw [State.withContexts_context, State.drainedContext_retiring] at hr
    exact hr.2 (h p t hr.1)
  simp [State.settleDrain, hd, State.retireIfDrained_foldl, none_left]

theorem Bank.set_three {α : Type} (b : Bank 3 α) (x y z : α) :
    ((b.set 0 x).set 1 y).set 2 z = Bank.tabulate fun k => if k = 0 then x else if k = 1 then y else z := by
  refine Bank.ext_get fun k => ?_
  rw [Bank.get_tabulate]
  fin_cases k <;> simp [Bank.get_set]

/-- R125, R144: what the completion of a RETIRE leaves. -/
theorem State.completeRetire_eq (s : State) (code : ResultCode) :
    s.completeRetire code =
      { s with
        command := { s.command with
          busy := false
          result := code
          details := Bank.tabulate fun k =>
            BitVec.ofNat 8 (if k = 0 then s.retire.retired else if k = 1 then s.retire.drained else s.retire.aborted) }
        interrupts := { s.interrupts with cmdDone := true }
        retire := { s.retire with phase := .idle, affected := [], timer := none } } := by
  simp only [State.completeRetire, State.completeWith, Bank.set_three, apply_ite (BitVec.ofNat 8)]

/-- Settles O45: the fold over the contexts is one change of all of them, and decides whether a RETIRING one is left. -/
theorem drainEndsWithItsLastUnit : Obligations.DrainEndsWithItsLastUnit := by
  intro s
  refine ⟨State.settleDrain_idle, fun hd => ⟨fun h => State.settleDrain_of_unit hd h, fun h => ?_⟩⟩
  rw [State.settleDrain_of_no_unit hd h, State.completeRetire_eq]
  rfl

end Sys2Proof.Machine

/-! PROOFS. The take of a RETIRE (R137, R138). -/

namespace Sys2Proof.Machine

/-! ### The affected set (R137) -/

/-- R137: whether a head context is affected by a RETIRE. -/
def State.affects (s : State) (x : Scope) (p : Port) (t : Stream) : Bool :=
  ((s.context p t).state == .opened || (s.context p t).state == .ended) && x.coversHead p t (s.context p t).copy

theorem State.affectedHeads_eq (s : State) (x : Scope) :
    s.affectedHeads x = allHeads.filter fun h => s.affects x h.1 h.2 := by
  simp only [State.affectedHeads, State.affects, Bool.and_comm]

theorem State.mem_affectedHeads {s : State} {x : Scope} {p : Port} {t : Stream} :
    (p, t) ∈ s.affectedHeads x ↔ s.affects x p t = true := by
  simp [State.affectedHeads_eq, mem_allHeads]

theorem State.contains_affectedHeads (s : State) (x : Scope) (p : Port) (t : Stream) :
    (s.affectedHeads x).contains (p, t) = s.affects x p t := by
  rw [Bool.eq_iff_iff, List.contains_iff_mem, State.mem_affectedHeads]

theorem State.affectedSet_length (s : State) (x : Scope) :
    (s.affectedSet x).length =
      (allHeads.filter fun h => s.affects x h.1 h.2).length + if s.hostAffected x then 1 else 0 := by
  simp only [State.affectedSet, State.affectedHeads_eq]
  cases s.hostAffected x <;> simp

theorem State.host_mem_affectedSet {s : State} {x : Scope} : .host ∈ s.affectedSet x ↔ s.hostAffected x = true := by
  unfold State.affectedSet
  cases s.hostAffected x <;> simp

/-! ### The take (R138) -/

/-- An operation on each port in turn is one change of all of them. -/
theorem foldl_setPort {f : State → Port → State} {g : Port → PortState → PortState}
    (hf : ∀ s p, f s p = s.setPort p (g p (s.port p))) (s : State) :
    allPorts.foldl f s = { s with ports := Bank.tabulate fun p => g p (s.port p) } := by
  have ports : (allPorts.foldl f s).ports = Bank.tabulate fun p => g p (s.port p) := by
    refine Bank.ext_get fun p => ?_
    fin_cases p <;> simp [allPorts, hf, State.setPort, State.port, Bank.get_set]
  rw [← ports]
  simp only [allPorts, List.foldl_cons, List.foldl_nil, hf]
  rfl

/-- R135, R138: the state after the take of a RETIRE, before the faults of the removed return entries. -/
def State.taken (s : State) (x : Scope) : State :=
  { s.withContexts fun p t => if s.affects x p t then (s.context p t).startRetiring else s.context p t with
    ports := Bank.tabulate fun p =>
      { s.port p with returns := (s.port p).returns.filter fun e => !s.affects x p e.stream }
    hostContext := if s.hostAffected x then s.hostContext.retire else s.hostContext
    retire := { s.retire with
      affected := s.affectedSet x
      retired := (s.affectedSet x).length
      drained := 0
      aborted := 0 } }

/-- R138: the RETIRED faults of the removed return entries. -/
def State.entryClaims (s : State) (x : Scope) : List Claim :=
  allPorts.flatMap fun p =>
    ((s.port p).returns.filter fun e => s.affects x p e.stream).map fun e =>
      s.contextClaim .retired p e.stream e.capture

theorem State.retireTake_eq (s : State) (x : Scope) : s.retireTake x = (s.taken x).raiseAll (s.entryClaims x) := by
  have heads : (s.affectedHeads x).foldl State.startRetiring s =
      s.withContexts fun p t => if s.affects x p t then (s.context p t).startRetiring else s.context p t := by
    have nodup : (s.affectedHeads x).Nodup := allHeads_nodup.filter _
    have all := foldl_setContext (f := State.startRetiring) (g := fun _ c => c.startRetiring) (fun _ _ _ => rfl) nodup s
      rfl
    simpa only [State.mem_affectedHeads] using all
  have entries (u : State) : allPorts.foldl (fun u p => u.removeEntries (s.affectedHeads x) p) u =
      { u with ports := Bank.tabulate fun p =>
          { u.port p with returns := (u.port p).returns.filter fun e => !s.affects x p e.stream } } := by
    rw [foldl_setPort (g := fun p y =>
      { y with returns := y.returns.filter fun e => !s.affects x p e.stream }) (fun u p => ?_) u]
    simp only [State.removeEntries, State.contains_affectedHeads]
  have claims : allPorts.flatMap (s.takeClaims (s.affectedHeads x)) = s.entryClaims x := by
    refine congrArg (fun f => allPorts.flatMap f) (funext fun p => ?_)
    simp only [State.takeClaims, State.contains_affectedHeads]
  rw [State.retireTake, heads, claims, entries]
  congr 1
  simp only [State.startCounts, List.contains_iff_mem, State.host_mem_affectedSet]
  rfl

theorem State.taken_context (s : State) (x : Scope) (p : Port) (t : Stream) :
    (s.taken x).context p t = if s.affects x p t then (s.context p t).startRetiring else s.context p t :=
  State.withContexts_context s _ p t

theorem State.taken_port (s : State) (x : Scope) (p : Port) :
    (s.taken x).port p =
      { s.port p with returns := (s.port p).returns.filter fun e => !s.affects x p e.stream } := by
  simp [State.taken, State.port]

/-- R138: after the take exactly the affected contexts are RETIRING, where none was before. -/
theorem State.taken_retiring {s : State} (h : ∀ (p : Port) (t : Stream), (s.context p t).state ≠ .retiring) (x : Scope)
    (p : Port) (t : Stream) : ((s.taken x).context p t).state = .retiring ↔ s.affects x p t = true := by
  rw [State.taken_context]
  split
  · next ha => simp [HeadContext.startRetiring, ha]
  · next ha => simp [h p t, ha]

theorem State.entryClaims_kind (s : State) (x : Scope) : ∀ c ∈ s.entryClaims x, c.kind = .retired := by
  intro c hc
  obtain ⟨p, -, hc⟩ := List.mem_flatMap.mp hc
  obtain ⟨e, -, rfl⟩ := List.mem_map.mp hc
  rfl

theorem State.entryClaims_any (s : State) (x : Scope) (p : Port) :
    ((s.entryClaims x).any fun c => c.source == .port p) = (s.port p).returns.any fun e => s.affects x p e.stream := by
  rw [Bool.eq_iff_iff]
  simp only [List.any_eq_true, State.entryClaims, List.mem_flatMap, List.mem_map, List.mem_filter, beq_iff_eq]
  constructor
  · rintro ⟨c, ⟨q, -, e, ⟨he, ha⟩, rfl⟩, hq⟩
    cases hq
    exact ⟨e, he, ha⟩
  · rintro ⟨e, he, ha⟩
    exact ⟨_, ⟨p, mem_allPorts p, e, ⟨he, ha⟩, rfl⟩, rfl⟩

end Sys2Proof.Machine

/-! PROOFS. The walks: the operations that leave every context and binding as it was, and that every step keeps each
context inside its copy and each live context bound (R23, R28, R37). -/

namespace Sys2Proof.Machine

/-! ### The frame -/

/-- The contexts and the binding slots. -/
structure Walks where
  contexts : Bank 4 (Bank 4 HeadContext)
  bindings : Bank 4 (Bank 4 (Option Binding))
  hostContext : HostContext

/-- Those of a state. -/
def State.walks (s : State) : Walks := ⟨s.contexts, s.bindings, s.hostContext⟩

theorem State.context_of_walks {s t : State} (h : t.walks = s.walks) (p : Port) (u : Stream) :
    t.context p u = s.context p u := congrArg (fun w : Walks => (w.contexts.get p).get u) h

theorem State.slot_of_walks {s t : State} (h : t.walks = s.walks) (p : Port) (u : Stream) :
    t.slot p u = s.slot p u := congrArg (fun w : Walks => (w.bindings.get p).get u) h

theorem State.hostContext_of_walks {s t : State} (h : t.walks = s.walks) : t.hostContext = s.hostContext :=
  congrArg Walks.hostContext h

theorem foldl_walks {α : Type} {f : State → α → State} (h : ∀ s a, (f s a).walks = s.walks) (l : List α) (s : State) :
    (l.foldl f s).walks = s.walks := by
  induction l generalizing s with
  | nil => rfl
  | cons a l ih => rw [List.foldl_cons, ih, h]

/-! ### Places, claims and in-flight units -/

@[simp] theorem State.setPort_walks (s : State) (p : Port) (x : PortState) : (s.setPort p x).walks = s.walks := rfl
@[simp] theorem State.setRequest_walks (s : State) (p : Port) (r : Option Request) :
    (s.setRequest p r).walks = s.walks := rfl
@[simp] theorem State.writeCell_walks (s : State) (row : BitVec 8) (column : BitVec 10) (v : Word) :
    (s.writeCell row column v).walks = s.walks := rfl
@[simp] theorem State.unitEnded_walks (s : State) (p : Port) (t : Stream) (how : UnitEnd) :
    (s.unitEnded p t how).walks = s.walks := by
  unfold State.unitEnded
  split <;> rfl
@[simp] theorem State.unitsEnded_walks (s : State) (p : Port) (items : List WorkItem) (how : UnitEnd) :
    (s.unitsEnded p items how).walks = s.walks := by
  unfold State.unitsEnded
  exact foldl_walks (fun s i => s.unitEnded_walks p i.stream how) items s
@[simp] theorem State.offerClaim_walks (s : State) (c : Claim) : (s.offerClaim c).walks = s.walks := by
  unfold State.offerClaim
  (repeat' split) <;> rfl
@[simp] theorem State.takeClaim_walks (s : State) (c : Claim) : (s.takeClaim c).walks = s.walks := by
  unfold State.takeClaim
  split
  · rfl
  · exact State.offerClaim_walks _ c
  · exact State.offerClaim_walks _ c
@[simp] theorem State.flagClaim_walks (s : State) (c : Claim) : (s.flagClaim c).walks = s.walks := by
  unfold State.flagClaim
  split <;> rfl
@[simp] theorem State.removeReceiving_walks (s : State) (p : Port) (how : UnitEnd) :
    (s.removeReceiving p how).walks = s.walks := by
  simp [State.removeReceiving]
@[simp] theorem State.skipReceiving_walks (s : State) (p : Port) : (s.skipReceiving p).walks = s.walks := by
  unfold State.skipReceiving
  split <;> rfl
@[simp] theorem State.dropReceiving_walks (s : State) (p : Port) : (s.dropReceiving p).walks = s.walks := by
  simp [State.dropReceiving]
@[simp] theorem State.enterSuspended_walks (s : State) (p : Port) : (s.enterSuspended p).walks = s.walks := by
  simp [State.enterSuspended]
@[simp] theorem State.setSuspendLatch_walks (s : State) (p : Port) : (s.setSuspendLatch p).walks = s.walks := rfl
@[simp] theorem State.raiseSuspended_walks (s : State) (p : Port) : (s.raiseSuspended p).walks = s.walks :=
  State.takeClaim_walks _ _
@[simp] theorem State.classTwoAction_walks (s : State) (c : Claim) : (s.classTwoAction c).walks = s.walks := by
  unfold State.classTwoAction
  (repeat' split) <;> simp
@[simp] theorem State.raise_walks (s : State) (c : Claim) : (s.raise c).walks = s.walks := by simp [State.raise]
@[simp] theorem State.raiseAll_walks (s : State) (cs : List Claim) : (s.raiseAll cs).walks = s.walks :=
  foldl_walks State.raise_walks cs s
@[simp] theorem State.suspendByCommand_walks (s : State) (p : Port) : (s.suspendByCommand p).walks = s.walks := by
  unfold State.suspendByCommand
  split <;> simp
@[simp] theorem State.removeItems_walks (s : State) (p : Port) (chosen told : WorkItem → Bool) :
    (s.removeItems p chosen told).walks = s.walks := by
  simp [State.removeItems]
@[simp] theorem State.dropRequestValue_walks (s : State) (p : Port) : (s.dropRequestValue p).walks = s.walks := rfl
@[simp] theorem State.cutResponse_walks (s : State) (p : Port) : (s.cutResponse p).walks = s.walks := by
  unfold State.cutResponse
  (repeat' split) <;> simp
@[simp] theorem State.completeWith_walks (s : State) (code : ResultCode) (d0 d1 d2 : Nat) :
    (s.completeWith code d0 d1 d2).walks = s.walks := rfl
@[simp] theorem State.complete_walks (s : State) (code : ResultCode) : (s.complete code).walks = s.walks := rfl
@[simp] theorem State.completeRetire_walks (s : State) (code : ResultCode) :
    (s.completeRetire code).walks = s.walks := rfl
@[simp] theorem State.markFor_walks (s : State) (r : Request) : (s.markFor r).walks = s.walks := by
  unfold State.markFor
  split <;> rfl
@[simp] theorem State.endWalk_walks (s : State) (p : Port) (t : Stream) : (s.endWalk p t).walks = s.walks := rfl
@[simp] theorem State.endGrant_walks (s : State) : s.endGrant.walks = s.walks := rfl
@[simp] theorem State.countAck_walks (s : State) (p : Port) : (s.countAck p).walks = s.walks := rfl
@[simp] theorem State.finishHead_walks (s : State) (p : Port) : (s.finishHead p).walks = s.walks := by
  unfold State.finishHead
  split <;> simp
@[simp] theorem State.continueCommit_walks (s : State) (p : Port) : (s.continueCommit p).walks = s.walks := by
  unfold State.continueCommit
  (repeat' split) <;> simp
@[simp] theorem State.continueReturn_walks (s : State) (p : Port) : (s.continueReturn p).walks = s.walks := by
  unfold State.continueReturn
  (repeat' split) <;> rfl

/-! ### Port operation and the decoder -/

@[simp] theorem State.disablePort_walks (s : State) (p : Port) : (s.disablePort p).walks = s.walks := by
  simp [State.disablePort]
@[simp] theorem State.writeEnable_walks (s : State) (p : Port) (written : Bool) :
    (s.writeEnable p written).walks = s.walks := by
  unfold State.writeEnable
  split <;> simp [State.enablePort]
@[simp] theorem State.writeEnables_walks (s : State) (v : Word) : (s.writeEnables v).walks = s.walks :=
  foldl_walks (fun s p => s.writeEnable_walks p _) allPorts s
@[simp] theorem State.setLineLatch_walks (s : State) (p : Port) : (s.setLineLatch p).walks = s.walks := rfl
@[simp] theorem State.takeLineUp_walks (s : State) (p : Port) : (s.takeLineUp p).walks = s.walks := by
  unfold State.takeLineUp
  split <;> rfl
@[simp] theorem State.takeLineDown_walks (s : State) (p : Port) : (s.takeLineDown p).walks = s.walks := by
  unfold State.takeLineDown
  split <;> simp [State.loseLine]
@[simp] theorem State.clearPort_walks (s : State) (p : Port) : (s.clearPort p).walks = s.walks := rfl
@[simp] theorem State.resetOnePort_walks (s : State) (p : Port) : (s.resetOnePort p).walks = s.walks := by
  unfold State.resetOnePort
  split <;> simp [State.enablePort]
@[simp] theorem State.setPosition_walks (s : State) (p : Port) (x : Position) :
    (s.setPosition p x).walks = s.walks := rfl
@[simp] theorem State.dropBurst_walks (s : State) (p : Port) : (s.dropBurst p).walks = s.walks := rfl
@[simp] theorem State.closeBurst_walks (s : State) (p : Port) : (s.closeBurst p).walks = s.walks := by
  unfold State.closeBurst
  (repeat' split) <;> simp [State.handTurn]
@[simp] theorem State.takeBurstStart_walks (s : State) (p : Port) : (s.takeBurstStart p).walks = s.walks := by
  unfold State.takeBurstStart
  dsimp only
  (repeat' split) <;> simp [State.openBurst]
@[simp] theorem State.takeBurstEnd_walks (s : State) (p : Port) : (s.takeBurstEnd p).walks = s.walks := by
  unfold State.takeBurstEnd
  split <;> simp
@[simp] theorem State.takeCodeViolation_walks (s : State) (p : Port) : (s.takeCodeViolation p).walks = s.walks := by
  unfold State.takeCodeViolation
  (repeat' split) <;> simp
@[simp] theorem State.expireReceive_walks (s : State) (p : Port) : (s.expireReceive p).walks = s.walks := by
  unfold State.expireReceive
  split <;> simp
@[simp] theorem State.offerPacket_walks (s : State) (p : Port) (kind : ItemKind) (d : HeaderBits) :
    (s.offerPacket p kind d).walks = s.walks := by
  unfold State.offerPacket
  split <;> simp [State.appendItem]
@[simp] theorem State.takeLimit_walks (s : State) (p : Port) (d : HeaderBits) : (s.takeLimit p d).walks = s.walks := by
  unfold State.takeLimit
  split <;> simp
@[simp] theorem State.deliverWrite_walks (s : State) (p : Port) (d : HeaderBits) :
    (s.deliverWrite p d).walks = s.walks := by
  unfold State.deliverWrite
  dsimp only
  split <;> simp
@[simp] theorem State.deliver_walks (s : State) (p : Port) (type : PacketType) (d : HeaderBits) :
    (s.deliver p type d).walks = s.walks := by
  unfold State.deliver
  split <;> simp [State.seeTurn]
@[simp] theorem State.checkSequence_walks (s : State) (p : Port) (d : HeaderBits) :
    (s.checkSequence p d).walks = s.walks := by
  unfold State.checkSequence
  (repeat' split) <;> simp
@[simp] theorem State.acceptHeader_walks (s : State) (p : Port) (found : Mode) (turnSeen : Bool) (d : HeaderBits) :
    (s.acceptHeader p found turnSeen d).walks = s.walks := by
  unfold State.acceptHeader
  (repeat' split) <;> simp
@[simp] theorem State.takeHeader_walks (s : State) (p : Port) (turnSeen : Bool) (d : HeaderBits) (check : Byte) :
    (s.takeHeader p turnSeen d check).walks = s.walks := by
  unfold State.takeHeader
  split <;> simp
@[simp] theorem State.receiveCell_walks (s : State) (p : Port) (v : Word) : (s.receiveCell p v).walks = s.walks := by
  unfold State.receiveCell
  split <;> rfl
@[simp] theorem State.takePayloadByte_walks (s : State) (p : Port) (d : HeaderBits) (taken : Nat) (lastByte : Byte)
    (sum : Word) (b : Byte) : (s.takePayloadByte p d taken lastByte sum b).walks = s.walks := by
  unfold State.takePayloadByte
  split <;> simp
@[simp] theorem State.compareSum_walks (s : State) (p : Port) (d : HeaderBits) (sum received : Word) :
    (s.compareSum p d sum received).walks = s.walks := by
  unfold State.compareSum
  (repeat' split) <;> simp [State.readyReceiving]
@[simp] theorem State.takeByteIn_walks (s : State) (p : Port) (burst : Burst) (b : Byte) :
    (s.takeByteIn p burst b).walks = s.walks := by
  unfold State.takeByteIn
  split <;> simp
@[simp] theorem State.takeByte_walks (s : State) (p : Port) (b : Byte) : (s.takeByte p b).walks = s.walks := by
  unfold State.takeByte
  (repeat' split) <;> simp

/-! ### Work items, responses and grants -/

@[simp] theorem State.raiseForItem_walks (s : State) (p : Port) (i : WorkItem) (kind : FaultKind) :
    (s.raiseForItem p i kind).walks = s.walks := State.raise_walks _ _
@[simp] theorem State.joinReturns_walks (s : State) (p : Port) (i : WorkItem) :
    (s.joinReturns p i).walks = s.walks := by
  unfold State.joinReturns
  (repeat' split) <;> simp
@[simp] theorem State.readEffect_walks (s : State) (p : Port) (i : WorkItem) : (s.readEffect p i).walks = s.walks := by
  unfold State.readEffect
  (repeat' split) <;> simp
@[simp] theorem State.executeRead_walks (s : State) (p : Port) : (s.executeRead p).walks = s.walks := by
  unfold State.executeRead
  split <;> simp
@[simp] theorem State.executeWrite_walks (s : State) (p : Port) : (s.executeWrite p).walks = s.walks := by
  unfold State.executeWrite
  (repeat' split) <;> simp [State.beginCommit]
@[simp] theorem State.endReturns_walks (s : State) (p : Port) : (s.endReturns p).walks = s.walks := rfl
@[simp] theorem State.endReturnsIfDone_walks (s : State) (p : Port) : (s.endReturnsIfDone p).walks = s.walks := by
  unfold State.endReturnsIfDone
  split <;> rfl
@[simp] theorem State.startResponse_walks (s : State) (p : Port) : (s.startResponse p).walks = s.walks := by
  unfold State.startResponse
  split <;> simp
@[simp] theorem State.beginSized_walks (s : State) (p : Port) (t : Stream) (n : Nat) :
    (s.beginSized p t n).walks = s.walks := by
  unfold State.beginSized
  split <;> simp [State.beginReturn]
@[simp] theorem State.serveEntry_walks (s : State) (p : Port) (e : ReturnEntry) :
    (s.serveEntry p e).walks = s.walks := by
  unfold State.serveEntry
  split <;> simp
@[simp] theorem State.takeEntry_walks (s : State) (p : Port) : (s.takeEntry p).walks = s.walks := by
  unfold State.takeEntry
  (repeat' split) <;> simp
@[simp] theorem State.endReturn_walks (s : State) (p : Port) : (s.endReturn p).walks = s.walks := by
  unfold State.endReturn
  (repeat' split) <;> simp
@[simp] theorem State.sendReport_walks (s : State) (p : Port) : (s.sendReport p).walks = s.walks := by
  unfold State.sendReport
  (repeat' split) <;> rfl
@[simp] theorem State.sendAck_walks (s : State) (p : Port) : (s.sendAck p).walks = s.walks := by
  unfold State.sendAck
  (repeat' split) <;> rfl
@[simp] theorem State.sendEnd_walks (s : State) (p : Port) : (s.sendEnd p).walks = s.walks := by
  unfold State.sendEnd
  split <;> rfl
@[simp] theorem State.chooseGrant_walks (s : State) : s.chooseGrant.walks = s.walks := rfl
@[simp] theorem State.cellCommitted_walks (s : State) (p : Port) : (s.cellCommitted p).walks = s.walks := by
  unfold State.cellCommitted
  (repeat' split) <;> simp
@[simp] theorem State.placeCell_walks (s : State) (p : Port) (v : Word) : (s.placeCell p v).walks = s.walks := rfl
@[simp] theorem State.releasePort_walks (s : State) (p : Port) : (s.releasePort p).walks = s.walks := rfl
@[simp] theorem State.removeEntries_walks (s : State) (heads : List (Port × Stream)) (p : Port) :
    (s.removeEntries heads p).walks = s.walks := rfl
@[simp] theorem State.drawFree_walks (s : State) : s.drawFree.walks = s.walks := rfl
@[simp] theorem State.zeroFillReturn_walks (s : State) (p : Port) (r : CurrentReturn) :
    (s.zeroFillReturn p r).walks = s.walks := by
  simp [State.zeroFillReturn]

/-! ### What the operations on contexts do -/

/-- R36, log entry 9: a performed grant moves the context its request was posted for, if it moves any. -/
theorem State.advanceFor_cases (s : State) (p : Port) (r : Request) :
    s.advanceFor p r = s ∨
      ∃ t : Stream, ((s.context p t).state = .opened ∨ (s.context p t).state = .retiring) ∧
        s.advanceFor p r = s.setContext p t (s.context p t).advance := by
  unfold State.advanceFor
  split
  · exact .inl rfl
  · next t _ =>
    split
    · next h => exact .inr ⟨t, h.2, rfl⟩
    · exact .inl rfl

/-- R140: the abort of a RETIRING context retires it, and touches no other context. -/
theorem State.abortContext_walks (s : State) (h : Port × Stream) :
    (s.abortContext h).walks =
      if (s.context h.1 h.2).state = .retiring then (s.setContext h.1 h.2 (s.context h.1 h.2).retire).walks
      else s.walks := by
  have retired {u : State} (hu : u.walks = s.walks) :
      (u.setContext h.1 h.2 (u.context h.1 h.2).retire).walks =
        (s.setContext h.1 h.2 (s.context h.1 h.2).retire).walks := by
    rw [State.context_of_walks hu]
    exact congrArg (fun w : Walks =>
      { w with contexts := w.contexts.set h.1 ((w.contexts.get h.1).set h.2 (s.context h.1 h.2).retire) }) hu
  unfold State.abortContext
  split
  · dsimp only
    split
    · apply retired
      split <;> simp
    · rw [State.raise_walks]
      apply retired
      split <;> simp
  · rfl

end Sys2Proof.Machine

namespace Sys2Proof

open Sys2Proof.Machine

/-! ### Contexts that are kept -/

section
variable {c : HeadContext} {slot : Option Binding}

theorem HeadContextKept.reset : HeadContextKept HeadContext.reset slot := ⟨fun _ => rfl, fun h => absurd rfl h⟩

/-- R23, R37: a live context, or a RETIRED one: what it must hold. -/
theorem HeadContextKept.of_copy {k : Copy} {b : Binding} (he : c.state ≠ .empty) (hk : c.copy = some k)
    (hb : b.aperture = k.aperture) (hle : c.cursor ≤ k.geometry.size)
    (heq : c.cursor = k.geometry.size → c.state = .ended ∨ (c.state = .retiring ∧ c.endIndicator = true)) :
    HeadContextKept c (some b) :=
  ⟨fun h => absurd h he, fun _ => ⟨k, b, hk, rfl, hb, hle, heq⟩⟩

/-- R23: without a binding a context is EMPTY. -/
theorem HeadContextKept.eq_reset (h : HeadContextKept c none) : c = HeadContext.reset := by
  refine h.1 ?_
  by_contra he
  obtain ⟨_, _, _, hb, _⟩ := h.2 he
  cases hb

/-- R37: an advance of a context that walks. -/
theorem HeadContextKept.advance (h : HeadContextKept c slot) (hs : c.state = .opened ∨ c.state = .retiring) :
    HeadContextKept c.advance slot := by
  have hempty : c.state ≠ .empty := by rcases hs with hs | hs <;> simp [hs]
  obtain ⟨k, b, hk, rfl, hb, hle, heq⟩ := h.2 hempty
  have hpos := k.geometry.size_pos
  rcases Nat.lt_trichotomy (c.cursor + 1) k.geometry.size with hlt | hlast | hgt
  · rw [HeadContext.advance_of_lt hk hlt]
    exact .of_copy hempty hk hb hlt.le fun e => absurd e (by simp; omega)
  · cases hp : k.geometry.policy with
    | loop =>
      rw [HeadContext.advance_of_loop hk hlast hp]
      exact .of_copy hempty hk hb hpos.le fun e => absurd e (by simp; omega)
    | stop =>
      rcases hs with hs | hs
      · rw [HeadContext.advance_of_stop_opened hk hlast hp hs]
        exact .of_copy (by simp) hk hb le_rfl fun _ => .inl rfl
      · rw [HeadContext.advance_of_stop_retiring hk hlast hp hs]
        exact .of_copy hempty hk hb le_rfl fun _ => .inr ⟨hs, rfl⟩
  · rwa [HeadContext.advance_of_le hk (by omega)]

/-- R35: a context that was not EMPTY becomes RETIRED at cursor 0. -/
theorem HeadContextKept.retire (h : HeadContextKept c slot) (hs : c.state ≠ .empty) : HeadContextKept c.retire slot := by
  obtain ⟨k, b, hk, rfl, hb, -, -⟩ := h.2 hs
  have hpos := k.geometry.size_pos
  exact .of_copy (by simp [HeadContext.retire]) hk hb (Nat.zero_le _) fun e => absurd e (by simp [HeadContext.retire]; omega)

/-- R35: an ENDED context that becomes RETIRING sets its end indicator. -/
theorem HeadContextKept.startRetiring (h : HeadContextKept c slot) (hs : c.state = .opened ∨ c.state = .ended) :
    HeadContextKept c.startRetiring slot := by
  obtain ⟨k, b, hk, rfl, hb, hle, heq⟩ := h.2 (by rcases hs with hs | hs <;> simp [hs])
  refine .of_copy (by simp [HeadContext.startRetiring]) hk hb hle fun e => .inr ⟨rfl, ?_⟩
  rcases heq e with he | ⟨hr, -⟩
  · simp [HeadContext.startRetiring, he]
  · rcases hs with hs | hs <;> simp [hr] at hs

end

/-- R37: an advance of the host context. -/
theorem HostContextKept.advance {c : HostContext} (h : HostContextKept c) : HostContextKept c.advance := by
  cases hk : c.copy with
  | none =>
    have : c.advance = c := by simp [HostContext.advance, hk]
    rwa [this]
  | some k =>
    have hpos := k.geometry.size_pos
    rcases Nat.lt_trichotomy (c.cursor + 1) k.geometry.size with hlt | hlast | hgt
    · rw [HostContext.advance_of_lt hk hlt]
      simp only [HostContextKept, hk]
      exact ⟨hlt.le, fun e => by omega⟩
    · cases hp : k.geometry.policy with
      | loop =>
        rw [HostContext.advance_of_loop hk hlast hp]
        simp only [HostContextKept, hk]
        exact ⟨hpos.le, fun e => by omega⟩
      | stop =>
        rw [HostContext.advance_of_stop hk hlast hp]
        simp [HostContextKept, hk]
    · rwa [HostContext.advance_of_le hk (by omega)]

/-- R28: a host context that goes to cursor 0, with or without a copy; without one it has to be CLOSED. -/
theorem HostContextKept.at_zero {c : HostContext} (hc : c.cursor = 0) (h : c.copy = none → c.state = .closed) :
    HostContextKept c := by
  unfold HostContextKept
  split
  · next hk => exact ⟨h hk, hc⟩
  · next k _ =>
    have hpos := k.geometry.size_pos
    exact ⟨by omega, fun e => by omega⟩

/-- R28: without a copy the host context is CLOSED. -/
theorem HostContextKept.closed {c : HostContext} (h : HostContextKept c) (hk : c.copy = none) : c.state = .closed := by
  simp only [HostContextKept, hk] at h
  exact h.1

/-! ### Every operation keeps the contexts -/

theorem ContextsKept.of_walks {s t : State} (hs : ContextsKept s) (h : t.walks = s.walks) : ContextsKept t := by
  refine ⟨fun p u => ?_, ?_⟩
  · rw [State.context_of_walks h, State.slot_of_walks h]
    exact hs.1 p u
  · rw [State.hostContext_of_walks h]
    exact hs.2

theorem ContextsKept.setContext {s : State} (hs : ContextsKept s) {p : Port} {t : Stream} {c : HeadContext}
    (hc : HeadContextKept c (s.slot p t)) : ContextsKept (s.setContext p t c) := by
  refine ⟨fun q u => ?_, hs.2⟩
  rw [State.setContext_context, State.setContext_slot]
  split
  · next h =>
    obtain ⟨rfl, rfl⟩ := h
    exact hc
  · exact hs.1 q u

theorem ContextsKept.withContexts {s : State} (hs : ContextsKept s) {f : Port → Stream → HeadContext}
    (hf : ∀ p t, HeadContextKept (f p t) (s.slot p t)) : ContextsKept (s.withContexts f) :=
  ⟨fun p t => by rw [State.withContexts_context]; exact hf p t, hs.2⟩

theorem ContextsKept.setHostContext {s : State} (hs : ContextsKept s) {c : HostContext} (hc : HostContextKept c) :
    ContextsKept (s.setHostContext c) := ⟨hs.1, hc⟩

section
variable {s : State} (hs : ContextsKept s)
include hs

theorem ContextsKept.raise (c : Claim) : ContextsKept (s.raise c) := hs.of_walks (s.raise_walks c)

theorem ContextsKept.finishHead (p : Port) : ContextsKept (s.finishHead p) := hs.of_walks (s.finishHead_walks p)

/-- R144. -/
theorem ContextsKept.settleDrain : ContextsKept s.settleDrain := by
  have drained : ContextsKept (s.withContexts s.drainedContext) := by
    refine hs.withContexts fun p t => ?_
    unfold State.drainedContext
    split
    · next h => exact (hs.1 p t).retire (by simp [h.1])
    · exact hs.1 p t
  cases hd : s.retire.phase with
  | idle => rwa [State.settleDrain_idle hd]
  | draining =>
    by_cases h : ∃ (p : Port) (t : Stream), (s.context p t).state = .retiring ∧ s.inFlight p t ≠ 0
    · rwa [State.settleDrain_of_unit hd h]
    · push Not at h
      rw [State.settleDrain_of_no_unit hd h]
      exact drained.of_walks (State.completeRetire_walks _ _)

theorem ContextsKept.advanceFor (p : Port) (r : Request) : ContextsKept (s.advanceFor p r) := by
  obtain h | ⟨t, hwalks, h⟩ := s.advanceFor_cases p r <;> rw [h]
  · exact hs
  · exact hs.setContext ((hs.1 p t).advance hwalks)

theorem ContextsKept.performPort (p : Port) : ContextsKept (s.performPort p) := by
  unfold State.performPort
  split
  · exact hs.of_walks s.endGrant_walks
  · next r _ =>
    dsimp only
    split
    · next v _ =>
      have written : ContextsKept (((s.releasePort p).writeCell r.row r.column v).markFor r) := hs.of_walks (by simp)
      exact (written.advanceFor p r).of_walks (by simp)
    · have moved : ContextsKept ((s.releasePort p).advanceFor p r) :=
        (hs.of_walks (s.releasePort_walks p)).advanceFor p r
      split <;> exact moved.of_walks (by simp)

/-- R31, R33: a START loads a live context of the aperture its slot names. -/
theorem ContextsKept.loadContext {p : Port} {t : Stream} {b : Binding} (hb : s.slot p t = some b) :
    ContextsKept (s.loadContext p t b) := by
  refine ContextsKept.setContext (hs.of_walks (s.endWalk_walks p t)) ?_
  rw [State.endWalk_slot, hb]
  refine .of_copy ?_ rfl rfl (Nat.zero_le _) fun e => ?_
  · dsimp only
    split <;> nofun
  · have := (s.aperture b.aperture).geometry.size_pos
    exact absurd e this.ne

theorem ContextsKept.executeStart (p : Port) : ContextsKept (s.executeStart p) := by
  unfold State.executeStart
  split
  · exact hs
  · next i _ =>
    refine ContextsKept.finishHead ?_ p
    unfold State.startEffect
    split
    · exact hs.raise _
    · split
      · exact hs.raise _
      · next b hb =>
        split
        · exact hs.raise _
        · split
          · exact hs.loadContext hb
          · split
            · exact hs
            · exact (hs.loadContext hb).raise _

/-- R28, R34. -/
theorem ContextsKept.emptyContext (p : Port) (t : Stream) : ContextsKept (s.emptyContext p t) :=
  ContextsKept.setContext (hs.of_walks (s.endWalk_walks p t)) .reset

theorem ContextsKept.executeStop (p : Port) : ContextsKept (s.executeStop p) := by
  unfold State.executeStop
  split
  · exact hs
  · next i _ =>
    refine ContextsKept.finishHead ?_ p
    unfold State.stopEffect
    split
    · exact hs.raise _
    · split
      · exact hs.raise _
      · exact hs.emptyContext _ _
      · exact hs.emptyContext _ _
      · exact hs
      · exact hs.raise _

/-! ### Retirement -/

theorem ContextsKept.retireTake (x : Scope) : ContextsKept (s.retireTake x) := by
  have heads : ContextsKept (s.withContexts fun p t =>
      if s.affects x p t then (s.context p t).startRetiring else s.context p t) := by
    refine hs.withContexts fun p t => ?_
    split
    · next h =>
      have hstate := (Bool.and_eq_true_iff.mp h).1
      exact (hs.1 p t).startRetiring (by simpa using hstate)
    · exact hs.1 p t
  have host : HostContextKept (if s.hostAffected x then s.hostContext.retire else s.hostContext) := by
    split
    · next h =>
      refine .at_zero rfl fun hk => ?_
      have hclosed := hs.2.closed hk
      simp [State.hostAffected, hclosed] at h
    · exact hs.2
  rw [State.retireTake_eq]
  exact (heads.setHostContext host).of_walks (State.raiseAll_walks _ _)

theorem ContextsKept.abortRetiring : ContextsKept s.abortRetiring := by
  refine List.foldlRecOn allHeads State.abortContext hs fun u hu h _ => ?_
  have hw := u.abortContext_walks h
  split at hw
  · next hr => exact (hu.setContext ((hu.1 h.1 h.2).retire (by simp [hr]))).of_walks hw
  · exact hu.of_walks hw

theorem ContextsKept.retireCommand : ContextsKept s.retireCommand := by
  unfold State.retireCommand
  split
  · exact hs.of_walks (s.complete_walks _)
  · next x _ =>
    split
    · exact hs.of_walks (s.complete_walks _)
    · split
      · exact (hs.retireTake x).of_walks rfl
      · exact (hs.retireTake x).abortRetiring.of_walks (State.completeRetire_walks _ _)

theorem ContextsKept.expireDrain : ContextsKept s.expireDrain := by
  unfold State.expireDrain
  split
  · exact hs.abortRetiring.of_walks (State.completeRetire_walks _ _)
  · exact hs

/-! ### Commands of the command unit -/

/-- R22: an empty slot that is bound has an EMPTY context. -/
theorem ContextsKept.setSlot {p : Port} {t : Stream} (hn : s.slot p t = none) (b : Binding) :
    ContextsKept (s.setSlot p t (some b)) := by
  refine ⟨fun q u => ?_, hs.2⟩
  rw [State.setSlot_slot, State.setSlot_context]
  split
  · next h =>
    obtain ⟨rfl, rfl⟩ := h
    have hkept := hs.1 p t
    rw [hn] at hkept
    rw [hkept.eq_reset]
    exact .reset
  · exact hs.1 q u

theorem ContextsKept.bindCommand : ContextsKept s.bindCommand := by
  unfold State.bindCommand
  (repeat' split) <;> try exact hs.of_walks (s.complete_walks _)
  next hbound _ =>
    exact (hs.setSlot (Option.not_isSome_iff_eq_none.mp hbound) _).of_walks (State.complete_walks _ _)

/-- R23: an UNBIND empties the context with the slot. -/
theorem ContextsKept.unbindSlot (p : Port) (t : Stream) : ContextsKept (s.unbindSlot p t) := by
  refine ⟨fun q u => ?_, hs.2⟩
  rw [State.unbindSlot, State.setSlot_slot, State.setSlot_context, State.setContext_context]
  split
  · exact .reset
  · exact hs.1 q u

theorem ContextsKept.unbindCommand : ContextsKept s.unbindCommand := by
  have refused (code : ResultCode) : ContextsKept (s.complete code) := hs.of_walks (s.complete_walks code)
  have emptied (p : Port) (t : Stream) : ContextsKept ((s.unbindSlot p t).complete .done) :=
    (hs.unbindSlot p t).of_walks (State.complete_walks _ _)
  unfold State.unbindCommand
  split
  · split
    · exact refused _
    · split
      · exact emptied _ _
      · exact refused _
      · exact refused _
      · exact refused _
      · exact emptied _ _
  · exact refused _

theorem ContextsKept.hostOpenCommand : ContextsKept s.hostOpenCommand := by
  unfold State.hostOpenCommand
  split
  · exact hs.of_walks (s.complete_walks _)
  · next n _ =>
    split
    · exact hs.of_walks (s.complete_walks _)
    · exact (hs.setHostContext (c := (s.aperture n).openFor n) (.at_zero rfl nofun)).of_walks (State.complete_walks _ _)

theorem ContextsKept.hostCloseCommand : ContextsKept s.hostCloseCommand := by
  have closed : HostContextKept s.hostContext.close := by
    unfold HostContext.close
    split
    · exact hs.2
    all_goals exact .at_zero rfl fun _ => rfl
  exact (hs.setHostContext closed).of_walks (State.complete_walks _ _)

theorem ContextsKept.runCommand (c : Option Command) : ContextsKept (s.runCommand c) := by
  cases c with
  | none => exact hs.of_walks (s.complete_walks _)
  | some c =>
    cases c with
    | defineAperture =>
      refine hs.of_walks ?_
      simp only [State.runCommand, State.defineCommand]
      split <;> rfl
    | clearAperture =>
      refine hs.of_walks ?_
      simp only [State.runCommand, State.clearCommand]
      (repeat' split) <;> rfl
    | bind => exact hs.bindCommand
    | unbind => exact hs.unbindCommand
    | retire => exact hs.retireCommand
    | suspendPort =>
      refine hs.of_walks ?_
      simp only [State.runCommand, State.suspendCommand]
      split <;> simp
    | resumePort =>
      refine hs.of_walks ?_
      simp only [State.runCommand, State.resumeCommand]
      (repeat' split) <;> rfl
    | resetPort =>
      refine hs.of_walks ?_
      simp only [State.runCommand, State.resetPortCommand]
      split <;> simp
    | hostOpen => exact hs.hostOpenCommand
    | hostClose => exact hs.hostCloseCommand

theorem ContextsKept.writeCmd (v : Word) : ContextsKept (s.writeCmd v) := by
  unfold State.writeCmd
  split
  · exact hs.of_walks rfl
  · exact ContextsKept.runCommand (hs.of_walks (t := s.takeCommand v) rfl) _

omit hs in
/-- R28: a soft reset leaves every head context EMPTY and the host context CLOSED. -/
theorem ContextsKept.softResetAll : ContextsKept s.softResetAll := by
  refine ⟨fun p t => ?_, rfl, rfl⟩
  have : s.softResetAll.context p t = HeadContext.reset := by
    simp [State.softResetAll, State.softResetBlocks, State.context]
  rw [this]
  exact .reset

theorem ContextsKept.writeControl (v : Word) : ContextsKept (s.writeControl v) := by
  unfold State.writeControl
  split
  · exact .softResetAll
  · exact hs.of_walks (s.writeEnables_walks v)

/-! ### Bus cycles and grants -/

theorem ContextsKept.postHost (access : Access) (wanted : Bool) : ContextsKept (s.postHost access wanted) := by
  unfold State.postHost
  split
  · exact hs
  · exact hs.of_walks rfl

theorem ContextsKept.writeCycle (r : Register) (v : Word) : ContextsKept (s.writeCycle r v) := by
  cases r with
  | control => exact hs.writeControl v
  | cmd => exact hs.writeCmd v
  | hostData =>
    simp only [State.writeCycle, State.hostWrite]
    split
    · exact hs.raise _
    · exact hs.postHost _ _
  | ctxSelect =>
    simp only [State.writeCycle, State.writeCtxSelect]
    split
    · exact hs.of_walks rfl
    · exact hs
  | _ => exact hs.of_walks rfl

theorem ContextsKept.readCycle (r : Register) (released : Bool) : ContextsKept (s.readCycle r released) := by
  cases r with
  | hostData =>
    simp only [State.readCycle, State.hostRead]
    split
    · exact (hs.raise _).of_walks rfl
    · exact hs.postHost _ _
  | ctxCursor hi => cases hi <;> exact hs.of_walks rfl
  | hostCursor hi => cases hi <;> exact hs.of_walks rfl
  | _ => exact hs.of_walks rfl

theorem ContextsKept.takeCycle (c : BusCycle) : ContextsKept (s.takeCycle c) := by
  cases c with
  | read r released => exact (hs.readCycle r released).settleDrain
  | write r v => exact (hs.writeCycle r v).settleDrain

theorem ContextsKept.takeHeldCycle (c : BusCycle) (behind : List BusCycle) :
    ContextsKept (s.takeHeldCycle c behind) := by
  unfold State.takeHeldCycle
  split
  · exact (hs.takeCycle c).of_walks rfl
  · exact hs.takeCycle c

omit hs in
theorem ContextsKept.takeHeld (held : List BusCycle) : ∀ {s : State}, ContextsKept s → ContextsKept (s.takeHeld held) := by
  induction held with
  | nil => exact fun hs => hs.of_walks rfl
  | cons c rest ih =>
    intro s hs
    have hc := hs.takeHeldCycle c rest
    rw [State.takeHeld_cons]
    split
    · exact hc.of_walks rfl
    · exact ih hc

theorem ContextsKept.advanceHost : ContextsKept s.advanceHost := by
  unfold State.advanceHost
  split
  · exact hs.setHostContext hs.2.advance
  · exact hs

theorem ContextsKept.performHostAccess (r : Request) : ContextsKept (s.performHostAccess r) := by
  unfold State.performHostAccess
  split
  · exact ContextsKept.advanceHost (hs.of_walks ((State.markFor_walks _ r).trans rfl))
  · split <;> exact ContextsKept.advanceHost (hs.of_walks rfl)

theorem ContextsKept.performGrant : ContextsKept s.performGrant := by
  unfold State.performGrant
  split
  · exact hs
  · next p _ => exact hs.performPort p
  · unfold State.performHost
    split
    · exact hs.of_walks s.endGrant_walks
    · next r _ => exact ContextsKept.takeHeld _ (hs.performHostAccess r)

/-! ### Commands and the microsecond -/

theorem ContextsKept.of_operate {t : State} {effect : State → State} (he : ContextsKept (effect s))
    (h : operate s effect = .next t) : ContextsKept t := by
  unfold operate at h
  split at h <;> cases h
  · exact hs
  · exact he.settleDrain

theorem ContextsKept.of_busCommand {t : State} {c : BusCycle} (h : busCommand s c = .next t) : ContextsKept t := by
  unfold busCommand State.hostCycle at h
  (repeat' split at h) <;> cases h
  · exact hs
  · exact hs.of_walks rfl
  · exact hs.takeCycle c

theorem ContextsKept.driveReset (asserted : Bool) : ContextsKept (s.driveReset asserted) := by
  cases asserted with
  | true => exact powerOnStateIsKept.2.2.2.1.of_walks rfl
  | false => exact hs.of_walks rfl

omit hs in
/-- Every command is POWER_ON_RESET, an event that keeps the contexts, or a host bus cycle. -/
theorem exec_contextsKept_cases (c : Instr) :
    (∃ asserted, ∀ s, exec c s = .next (s.driveReset asserted)) ∨
      (∃ effect : State → State, (∀ s, ContextsKept s → ContextsKept (effect s)) ∧ ∀ s, exec c s = operate s effect) ∨
      ∃ cycle, ∀ s, exec c s = busCommand s cycle := by
  cases c with
  | powerOnReset asserted => exact .inl ⟨asserted, exec_powerOnReset asserted⟩
  | lineUp p => exact .inr (.inl ⟨_, fun s hs => hs.of_walks (s.takeLineUp_walks p), exec_lineUp p⟩)
  | lineDown p => exact .inr (.inl ⟨_, fun s hs => hs.of_walks (s.takeLineDown_walks p), exec_lineDown p⟩)
  | burstStart p => exact .inr (.inl ⟨_, fun s hs => hs.of_walks (s.takeBurstStart_walks p), exec_burstStart p⟩)
  | byte p b => exact .inr (.inl ⟨_, fun s hs => hs.of_walks (s.takeByte_walks p b), exec_byte p b⟩)
  | burstEnd p => exact .inr (.inl ⟨_, fun s hs => hs.of_walks (s.takeBurstEnd_walks p), exec_burstEnd p⟩)
  | codeViolation p => exact .inr (.inl ⟨_, fun s hs => hs.of_walks (s.takeCodeViolation_walks p), exec_codeViolation p⟩)
  | receiveTimeout p => exact .inr (.inl ⟨_, fun s hs => hs.of_walks (s.expireReceive_walks p), exec_receiveTimeout p⟩)
  | startItem p => exact .inr (.inl ⟨_, fun s hs => hs.executeStart p, exec_startItem p⟩)
  | stopItem p => exact .inr (.inl ⟨_, fun s hs => hs.executeStop p, exec_stopItem p⟩)
  | readItem p => exact .inr (.inl ⟨_, fun s hs => hs.of_walks (s.executeRead_walks p), exec_readItem p⟩)
  | writeItem p => exact .inr (.inl ⟨_, fun s hs => hs.of_walks (s.executeWrite_walks p), exec_writeItem p⟩)
  | arbiterGrant => exact .inr (.inl ⟨_, fun s hs => hs.of_walks (s.chooseGrant_walks), exec_arbiterGrant⟩)
  | grantPerformed => exact .inr (.inl ⟨_, fun s hs => hs.performGrant, exec_grantPerformed⟩)
  | responseStart p => exact .inr (.inl ⟨_, fun s hs => hs.of_walks (s.startResponse_walks p), exec_responseStart p⟩)
  | returnEntryTake p => exact .inr (.inl ⟨_, fun s hs => hs.of_walks (s.takeEntry_walks p), exec_returnEntryTake p⟩)
  | returnEnd p => exact .inr (.inl ⟨_, fun s hs => hs.of_walks (s.endReturn_walks p), exec_returnEnd p⟩)
  | reportSent p => exact .inr (.inl ⟨_, fun s hs => hs.of_walks (s.sendReport_walks p), exec_reportSent p⟩)
  | ackSent p => exact .inr (.inl ⟨_, fun s hs => hs.of_walks (s.sendAck_walks p), exec_ackSent p⟩)
  | endSymbolSent p => exact .inr (.inl ⟨_, fun s hs => hs.of_walks (s.sendEnd_walks p), exec_endSymbolSent p⟩)
  | drainTimerExpiry => exact .inr (.inl ⟨_, fun s hs => hs.expireDrain, exec_drainTimerExpiry⟩)
  | _ => exact .inr (.inr ⟨_, fun _ => rfl⟩)

theorem ContextsKept.of_exec {t : State} (c : Instr) (h : exec c s = .next t) : ContextsKept t := by
  obtain ⟨asserted, hc⟩ | ⟨effect, he, hc⟩ | ⟨cycle, hc⟩ := exec_contextsKept_cases c <;> rw [hc] at h
  · cases h
    exact hs.driveReset asserted
  · exact hs.of_operate (he s hs) h
  · exact hs.of_busCommand h

theorem ContextsKept.tickReceive (p : Port) : ContextsKept (s.tickReceive p) := by
  have counted : ContextsKept (s.countReceive p) := hs.of_walks rfl
  unfold State.tickReceive
  split
  · exact ContextsKept.settleDrain (counted.of_walks (State.expireReceive_walks _ p))
  · exact counted

theorem ContextsKept.tickDrain : ContextsKept s.tickDrain := by
  have counted : ContextsKept s.countDrain := hs.of_walks rfl
  unfold State.tickDrain
  split
  · exact counted.expireDrain
  · exact counted

theorem ContextsKept.tick : ContextsKept s.tick := by
  unfold State.tick
  split
  · exact hs
  · exact ContextsKept.tickDrain (List.foldlRecOn allPorts State.tickReceive hs fun _ hu p _ => hu.tickReceive p)

end

/-- Settles O57: the step is one command on the state with the rest of the queue, or one microsecond. -/
theorem contextsKeptByEveryStep : Obligations.ContextsKeptByEveryStep := by
  intro s t hs h
  unfold step at h
  split at h
  · cases h
    exact hs.tick
  · next c rest _ => exact ContextsKept.of_exec (hs.of_walks (t := { s with pending := rest }) rfl) c h

end Sys2Proof

/-! PROOFS. START and STOP at the head of a work queue (R29 to R34). -/

namespace Sys2Proof.Machine

/-! ### The item that is executed (R93) -/

theorem State.readyHead_eq {s : State} {p : Port} {i : WorkItem} {rest : List WorkItem} {kind : ItemKind}
    (hl : (s.port p).link = .waitSync ∨ (s.port p).link = .listening ∨ (s.port p).link = .turnWait)
    (hq : (s.port p).queue = i :: rest) (hk : i.kind = kind) (hr : i.state = .ready) :
    s.readyHead p kind = some i := by
  have executes : (s.port p).link.executes = true := by
    rcases hl with h | h | h <;> rw [h] <;> rfl
  simp [State.readyHead, hq, executes, hk, hr]

theorem exec_startItem_ready {s : State} {p : Port} {i : WorkItem} (hs : Operating s)
    (hi : s.readyHead p .start = some i) :
    exec (.startItem p) s = .next (((s.startEffect p i).finishHead p).settleDrain) := by
  rw [exec_startItem, operate_next hs.1, State.executeStart, hi]

theorem exec_stopItem_ready {s : State} {p : Port} {i : WorkItem} (hs : Operating s)
    (hi : s.readyHead p .stop = some i) :
    exec (.stopItem p) s = .next (((s.stopEffect p i).finishHead p).settleDrain) := by
  rw [exec_stopItem, operate_next hs.1, State.executeStop, hi]

/-! ### START (R29 to R33) -/

/-- R32, R33: a resume finds its walk in a live context whose copy is of the slot's entry as it now stands. -/
theorem State.canResume_iff {s : State} {p : Port} {t : Stream} {b : Binding} :
    s.canResume p t b = true ↔
      ((s.context p t).state = .opened ∨ (s.context p t).state = .ended ∨ (s.context p t).state = .retiring) ∧
        ∃ k : Copy, (s.context p t).copy = some k ∧ k.aperture = b.aperture ∧
          k.generation = (s.aperture b.aperture).generation := by
  unfold State.canResume
  cases (s.context p t).copy with
  | none => cases (s.context p t).state <;> simp
  | some k => cases (s.context p t).state <;> simp

section
variable {s : State} {p : Port} {i : WorkItem}

theorem State.startEffect_badParameter (h0 : i.parameter ≠ 0) (h1 : i.parameter ≠ 1) :
    s.startEffect p i = s.raiseForItem p i .badParameter := if_pos ⟨h0, h1⟩

theorem State.startEffect_notBound (h : i.parameter = 0 ∨ i.parameter = 1) (hb : s.slot p i.stream = none) :
    s.startEffect p i = s.raiseForItem p i .notBound := by
  have good : ¬ (i.parameter ≠ 0 ∧ i.parameter ≠ 1) := by tauto
  rw [State.startEffect, if_neg good, hb]

/-- R30 to R33: a START of a bound stream. -/
theorem State.startEffect_bound {b : Binding} (h : i.parameter = 0 ∨ i.parameter = 1)
    (hb : s.slot p i.stream = some b) :
    s.startEffect p i =
      if b.rights.inter (s.aperture b.aperture).rights = ⟨false, false⟩ then s.raiseForItem p i .rights
      else if i.parameter = 0 then s.loadContext p i.stream b
      else if s.canResume p i.stream b then s
      else (s.loadContext p i.stream b).raise (s.contextClaim .resumeLost p i.stream i.capture) := by
  have good : ¬ (i.parameter ≠ 0 ∧ i.parameter ≠ 1) := by tauto
  rw [State.startEffect, if_neg good, hb]
  simp only [Rights.isEmpty_iff]

end

/-- Settles O21: the item is READY at the head, and its effect follows the checks in their order. -/
theorem startLoadsOrResumes : Obligations.StartLoadsOrResumes := by
  intro p s i rest hs hl hq hk hr c claim result
  have hresult : result = _ := exec_startItem_ready hs (State.readyHead_eq hl hq hk hr)
  rw [hresult]
  refine ⟨fun h0 h1 => ?_, fun hparam hb => ?_, fun b hparam hb => ?_⟩
  · rw [State.startEffect_badParameter h0 h1]
    rfl
  · rw [State.startEffect_notBound hparam hb]
    rfl
  · intro entry granted loaded found
    have hgranted : b.rights.inter (s.aperture b.aperture).rights = granted := rfl
    have hload : s.loadContext p i.stream b = loaded := rfl
    have hfound : s.canResume p i.stream b = true ↔ found := State.canResume_iff
    rw [State.startEffect_bound hparam hb, hgranted, hload]
    refine ⟨fun hg => ?_, fun hg h0 => ?_, fun hg h1 hf => ?_, fun hg h1 hf => ?_⟩
    · rw [if_pos hg]
      rfl
    · rw [if_neg hg, if_pos h0]
    · rw [if_neg hg, if_neg (by simp [h1]), if_pos (hfound.mpr hf)]
    · rw [if_neg hg, if_neg (by simp [h1]), if_neg (hf ∘ hfound.mp)]
      rfl

/-! ### STOP (R29, R34) -/

section
variable {s : State} {p : Port} {i : WorkItem}

theorem State.stopEffect_notBound (hb : s.slot p i.stream = none) :
    s.stopEffect p i = s.raiseForItem p i .notBound := by
  rw [State.stopEffect, hb]

variable {b : Binding} (hb : s.slot p i.stream = some b)
include hb

theorem State.stopEffect_empty (h : (s.context p i.stream).state = .empty) :
    s.stopEffect p i = s.raiseForItem p i .rights := by simp [State.stopEffect, hb, h]

theorem State.stopEffect_retired (h : (s.context p i.stream).state = .retired) :
    s.stopEffect p i = s.raiseForItem p i .retired := by simp [State.stopEffect, hb, h]

theorem State.stopEffect_retiring (h : (s.context p i.stream).state = .retiring) : s.stopEffect p i = s := by
  simp [State.stopEffect, hb, h]

theorem State.stopEffect_live (h : (s.context p i.stream).state = .opened ∨ (s.context p i.stream).state = .ended) :
    s.stopEffect p i = s.emptyContext p i.stream := by
  rcases h with h | h <;> simp [State.stopEffect, hb, h]

end

/-- Settles O22: the item is READY at the head, and its effect follows the state of the context. -/
theorem stopEmptiesTheContext : Obligations.StopEmptiesTheContext := by
  intro p s i rest hs hl hq hk hr c claim result
  have hresult : result = _ := exec_stopItem_ready hs (State.readyHead_eq hl hq hk hr)
  rw [hresult]
  cases hb : s.slot p i.stream with
  | none => exact ⟨fun _ => by rw [State.stopEffect_notBound hb]; rfl, by simp⟩
  | some b =>
    refine ⟨nofun, fun _ h => ?_, fun _ h => ?_, fun _ h => ?_, fun _ h => ?_⟩
    · rw [State.stopEffect_empty hb h]
      rfl
    · rw [State.stopEffect_retired hb h]
      rfl
    · rw [State.stopEffect_retiring hb h]
    · rw [State.stopEffect_live hb h]
      rfl

end Sys2Proof.Machine

/-! PROOFS. The write grant of a commit (R35, R36, R95 to R99, R190). -/

namespace Sys2Proof.Machine

/-! ### What the end of a drain leaves -/

/-- R144: the end of a drain changes contexts, and at most completes the command. -/
theorem State.settleDrain_cases (s : State) :
    s.settleDrain = s ∨ s.settleDrain = s.withContexts s.drainedContext ∨
      s.settleDrain = (s.withContexts s.drainedContext).completeRetire .done := by
  cases hd : s.retire.phase with
  | idle => exact .inl (State.settleDrain_idle hd)
  | draining =>
    by_cases h : ∃ (p : Port) (t : Stream), (s.context p t).state = .retiring ∧ s.inFlight p t ≠ 0
    · exact .inr (.inl (State.settleDrain_of_unit hd h))
    · push Not at h
      exact .inr (.inr (State.settleDrain_of_no_unit hd h))

theorem State.settleDrain_ports (s : State) : s.settleDrain.ports = s.ports := by
  obtain h | h | h := s.settleDrain_cases <;> rw [h] <;> rfl

theorem State.settleDrain_arbiter (s : State) : s.settleDrain.arbiter = s.arbiter := by
  obtain h | h | h := s.settleDrain_cases <;> rw [h] <;> rfl

/-- Log entry 27: the counts outlast the drain. -/
theorem State.settleDrain_counts (s : State) :
    s.settleDrain.retire.drained = s.retire.drained ∧ s.settleDrain.retire.aborted = s.retire.aborted := by
  obtain h | h | h := s.settleDrain_cases <;> rw [h] <;> exact ⟨rfl, rfl⟩

/-- R26: a work queue with the same streams holds as many units of each. -/
theorem State.setQueue_inFlight {s : State} {p : Port} {queue : List WorkItem}
    (h : (queue.map fun i => i.stream) = (s.port p).queue.map fun i => i.stream) (q : Port) (u : Stream) :
    (s.setPort p { s.port p with queue := queue }).inFlight q u = s.inFlight q u := by
  refine State.setPort_inFlight ?_ ?_ q u
  · exact h
  · rfl

/-! ### The item whose cell has been written (R95, R99) -/

theorem State.markFor_eq (s : State) (r : Request) :
    s.markFor r =
      { s with
        marks :=
          if r.marking = true ∧ (s.aperture r.aperture).isDefined = true ∧
              (s.aperture r.aperture).generation = r.generation then
            withMark s.marks r.aperture
          else s.marks } := by
  unfold State.markFor
  split <;> rfl

/-- The state with the engine's aborted count given. -/
def State.withAborted (s : State) (n : Nat) : State := { s with retire := { s.retire with aborted := n } }

/-- R145: the end of a unit by an abort. -/
theorem State.unitEnded_aborted (s : State) (p : Port) (t : Stream) :
    s.unitEnded p t .aborted =
      s.withAborted
        (if (s.context p t).state = .retiring then min 255 (s.retire.aborted + 1) else s.retire.aborted) := by
  unfold State.unitEnded
  split <;> rfl

section
variable {s : State} {p : Port} {i : WorkItem} {rest : List WorkItem} {j : Nat} {inHand counted : Bool}
  (hq : (s.port p).queue = i :: rest)
include hq

theorem State.cellCommitted_of_staying (hi : i.state = .committing j inHand false counted) :
    s.cellCommitted p =
      s.setPort p
        { s.port p with queue := { i with state := .committing (j + 1) false false counted } :: rest } := by
  simp [State.cellCommitted, hq, hi, setHeadState]

/-- R69, R145, R190: an item that was leaving goes, and counts as aborted unless it has been counted. -/
theorem State.cellCommitted_of_leaving (hi : i.state = .committing j inHand true counted) :
    s.cellCommitted p =
      (s.withAborted
        (if counted = false ∧ (s.context p i.stream).state = .retiring then min 255 (s.retire.aborted + 1)
         else s.retire.aborted)).setPort p { s.port p with queue := rest } := by
  simp only [State.cellCommitted, hq, hi, if_true, State.unitEnded_aborted]
  cases counted with
  | true => rfl
  | false =>
    simp only [true_and]
    rfl

end

/-! ### The write grant -/

/-- The state after the grant of a port's write, before its commit goes on. -/
def State.afterWrite (s : State) (p : Port) (r : Request) (v : Word) : State :=
  (((s.releasePort p).writeCell r.row r.column v).markFor r).advanceFor p r

theorem exec_grantPerformed_write {s : State} {p : Port} {r : Request} {v : Word} (hs : Operating s)
    (hg : s.arbiter.granting = some (.port p)) (hr : s.request p = some r) (ha : r.access = .write v) :
    exec .grantPerformed s = .next ((((s.afterWrite p r v).cellCommitted p).continueCommit p).settleDrain) := by
  rw [exec_grantPerformed_port hs.1 hg]
  simp only [State.performPort, hr, ha]
  rfl

/-- A write grant stores its cell, frees the port's request, and makes no context RETIRING that was not; the ports and
the engine stand as they did. -/
theorem State.afterWrite_spec (s : State) (p : Port) (r : Request) (v : Word) :
    (s.afterWrite p r v).store = (s.writeCell r.row r.column v).store ∧ (s.afterWrite p r v).ports = s.ports ∧
      (s.afterWrite p r v).request p = none ∧ (s.afterWrite p r v).retire = s.retire ∧
      ∀ t : Stream, ((s.afterWrite p r v).context p t).state = .retiring ↔ (s.context p t).state = .retiring := by
  have marked := State.markFor_eq ((s.releasePort p).writeCell r.row r.column v) r
  have free : ((s.releasePort p).writeCell r.row r.column v).request p = none := by
    simp [State.releasePort, State.request]
  have moved (c : HeadContext) : c.advance.state = .retiring ↔ c.state = .retiring := c.advance_retiring
  unfold State.afterWrite
  rw [marked]
  obtain h | ⟨t, -, h⟩ := State.advanceFor_cases _ p r <;> rw [h]
  · exact ⟨rfl, rfl, free, rfl, fun _ => Iff.rfl⟩
  · refine ⟨rfl, rfl, free, rfl, fun u => ?_⟩
    rw [State.setContext_context]
    split
    · next hu =>
      obtain ⟨-, rfl⟩ := hu
      exact moved _
    · rfl

/-- R96 to R98: the commit that goes on after its write grant. -/
theorem commitGoesOn_staying {p : Port} {s : State} {i : WorkItem} {rest : List WorkItem} {r : Request} {v : Word}
    {j : Nat} {counted : Bool} (hq : (s.port p).queue = i :: rest) (hi : i.state = .committing j true false counted)
    (hr : r.stream = some i.stream) :
    (s.afterWrite p r v).cellCommitted p =
      ({ s.writeCell r.row r.column v with
          arbiter := { s.arbiter with granting := none, portRequests := s.arbiter.portRequests.set p none }
          marks :=
            if r.marking = true ∧ (s.aperture r.aperture).isDefined = true ∧
                (s.aperture r.aperture).generation = r.generation then
              s.marks ||| BitVec.twoPow 32 r.aperture.val
            else s.marks
          ports := s.ports.set p
            { s.port p with queue := { i with state := .committing (j + 1) false false counted } :: rest } } :
        State).setContext p i.stream ((s.context p i.stream).moved r.standing) := by
  rw [State.afterWrite, State.markFor_eq, State.advanceFor_eq p hr]
  exact State.cellCommitted_of_staying (p := p) hq hi

/-- Settles O27: the cell is committed, and what the item then needs decides how the commit goes on. -/
theorem commitGoesOnByGrants : Obligations.CommitGoesOnByGrants := by
  constructor
  · intro p s i rest r v j counted hs hg hr ha hq hi hstream c c' marked s1
    have hexec : exec .grantPerformed s = .next ((s1.continueCommit p).settleDrain) := by
      rw [exec_grantPerformed_write hs hg hr ha, commitGoesOn_staying hq hi hstream]
      rfl
    have hq1 : (s1.port p).queue = { i with state := .committing (j + 1) false false counted } :: rest := by
      simp [s1, State.port]
    have hcontext : s1.context p i.stream = c' := State.setContext_context_self _ _ _ _
    rw [hexec]
    refine ⟨fun hj => by rw [State.continueCommit_of_done hq1 rfl hj], fun k hj hk => ⟨fun hp hc => ?_,
      fun slot hslot hc => ?_⟩⟩
    · have hend : (s1.context p i.stream).atEnd = true := by
        rw [hcontext]
        exact HeadContext.atEnd_of_stop hk hp hc
      have hclaim : s1.contextClaim .apertureEnd p i.stream i.capture =
          ⟨.apertureEnd, .port p, some i.stream, some ⟨k.aperture, c'.cursor⟩,
            some ⟨headerType i.capture, i.capture⟩⟩ := by
        simp [State.contextClaim, HeadContext.walkPoint, packetRef, hcontext, hk]
      rw [State.continueCommit_of_atEnd hq1 rfl hj hend, hclaim]
    · have hrequest : s1.request p = none := by simp [s1, State.request]
      have hslots : (s1.port p).slots = (s.port p).slots := by simp [s1, State.port]
      rw [State.continueCommit_of_lt hq1 rfl hj hrequest hslot (by rwa [hcontext]) (by rwa [hcontext]), hcontext,
        hslots]
      have hports : s1.ports = (s.setPort p
          { s.port p with queue := { i with state := .committing (j + 1) false false counted } :: rest }).ports := rfl
      have hflight (q : Port) (w : Stream) : s1.inFlight q w = s.inFlight q w := by
        rw [State.inFlight_of_ports hports]
        exact State.setQueue_inFlight (by simp [hq]) q w
      refine congrArg _ (State.settleDrain_of_afterRead (p := p) (t := i.stream) (standing := r.standing) hs.2 rfl rfl
        fun q w => ?_)
      rw [← hflight, State.inFlight_of_ports (State.setRequest_ports _ _ _)]
      exact State.setQueue_inFlight (by simp [hq1]) q w
  · intro p s t i rest r v j inHand counted hs hg hr ha hq hi hrest ht
    obtain ⟨hstore, hports, hrequest, hretire, hcontext⟩ := s.afterWrite_spec p r v
    have hport : (s.afterWrite p r v).port p = s.port p := congrArg (fun b => Bank.get b p) hports
    have hnext : ∀ (x : WorkItem) (rest' : List WorkItem) (n : Nat) (counted' : Bool), rest = x :: rest' →
        x.state ≠ .committing n false false counted' := by
      rintro x rest' n counted' rfl
      rcases hrest x List.mem_cons_self with h | ⟨m, h⟩ <;> simp [h]
    rw [exec_grantPerformed_write hs hg hr ha, State.cellCommitted_of_leaving (by rw [hport, hq]) hi,
      State.continueCommit_of_none (by simpa using hnext)] at ht
    cases ht
    obtain ⟨hdrained, haborted⟩ := State.settleDrain_counts (((s.afterWrite p r v).withAborted _).setPort p _)
    refine ⟨?_, ?_, ?_, ?_, ?_, ?_⟩
    · exact (congrArg Kept.store (State.settleDrain_kept _)).trans hstore
    · rw [State.port, State.settleDrain_ports]
      simp [State.setPort]
    · rw [State.port, State.settleDrain_ports]
      simp [State.setPort, hport]
    · rw [State.request, State.settleDrain_arbiter]
      exact hrequest
    · exact hdrained.trans (show (s.afterWrite p r v).retire.drained = _ by rw [hretire])
    · refine haborted.trans ?_
      simp [State.withAborted, hretire, hcontext]

end Sys2Proof.Machine

/-! PROOFS. BIND and UNBIND (R22, R23), and the reads with a side effect (R41, R160, R172, R176). -/

namespace Sys2Proof.Machine

/-! ### Fields of the staged arguments -/

theorem portOf_eq_none {n : Nat} (h : 4 ≤ n) : portOf n = none := by
  simp [portOf, Nat.not_lt.mpr h]

theorem portOf_val (p : Port) : portOf p.val = some p := by
  simp [portOf]

theorem Rights.within_iff (a b : Rights) :
    a.within b = true ↔ (a.read = true → b.read = true) ∧ (a.write = true → b.write = true) := by
  obtain ⟨r, w⟩ := a
  cases r <;> cases w <;> simp [Rights.within]

/-! ### BIND (R22) -/

section
variable {s : State} (hs : CommandReady s)
include hs

theorem exec_bind_next : exec .bind s = .next ((s.takeCommand 0x0021).bindCommand).settleDrain := by
  rw [exec_bind, busCommand_cmd hs]
  rfl

theorem exec_bind_badIndex
    (h : 4 ≤ argPort s.command.args ∨ 4 ≤ argStream s.command.args ∨ 32 ≤ argIndex s.command.args) :
    exec .bind s = .next (s.answered 0x0021 .badIndex) := by
  have refused : (s.takeCommand 0x0021).bindCommand = s.answered 0x0021 .badIndex := by
    rw [← s.complete_takeCommand]
    unfold State.bindCommand
    split
    · next p t n hp ht hn =>
      have hp : portOf (argPort s.command.args) = some p := hp
      have ht : portOf (argStream s.command.args) = some t := ht
      have hn : indexOf (argIndex s.command.args) = some n := hn
      rcases h with h | h | h
      · rw [portOf_eq_none h] at hp
        cases hp
      · rw [portOf_eq_none h] at ht
        cases ht
      · rw [indexOf_eq_none h] at hn
        cases hn
    · rfl
  rw [exec_bind_next hs, refused, State.answered_settled hs.1.1.2]

end

/-- R22: the checks of BIND in their order. -/
theorem State.bindCommand_takeCommand {s : State} {p : Port} {t : Stream} {n : ApIndex}
    (hp : argPort s.command.args = p.val) (ht : argStream s.command.args = t.val)
    (hn : argIndex s.command.args = n.val) :
    (s.takeCommand 0x0021).bindCommand =
      if (s.aperture n).isDefined = false then s.answered 0x0021 .noAperture
      else if s.slot p t ≠ none then s.answered 0x0021 .alreadyBound
      else if argRights s.command.args = ⟨false, false⟩ ∨ ¬ (argRights s.command.args).within (s.aperture n).rights then
        s.answered 0x0021 .badRights
      else (s.answered 0x0021 .done).setSlot p t (some ⟨n, argRights s.command.args⟩) := by
  have port : portOf (argPort (s.takeCommand 0x0021).command.staged) = some p := (congrArg portOf hp).trans (portOf_val p)
  have stream : portOf (argStream (s.takeCommand 0x0021).command.staged) = some t :=
    (congrArg portOf ht).trans (portOf_val t)
  have index : indexOf (argIndex (s.takeCommand 0x0021).command.staged) = some n :=
    (congrArg indexOf hn).trans (indexOf_val n)
  simp only [← s.complete_takeCommand, ← Rights.isEmpty_iff, ← Option.isSome_iff_ne_none, ← Bool.not_eq_true]
  unfold State.bindCommand
  rw [port, stream, index]
  rfl

/-- Settles O36: the first check that fails answers, and with none the slot is filled. -/
theorem bindResult : Obligations.BindResult := by
  intro s hs a taken
  refine ⟨exec_bind_badIndex hs, fun p t n hp ht hn => ?_⟩
  intro granted allowed
  have hexec : exec .bind s = _ := exec_bind_next hs
  have refused (code : ResultCode) : (s.answered 0x0021 code).settleDrain = taken code :=
    State.answered_settled hs.1.1.2 _ _
  have hallowed : (granted = ⟨false, false⟩ ∨ ¬ granted.within (s.aperture n).rights) ↔ ¬ allowed := by
    rw [Rights.within_iff]
    simp only [allowed]
    tauto
  rw [hexec, State.bindCommand_takeCommand hp ht hn]
  refine ⟨fun hd => ?_, fun hd hb => ?_, fun hd hb hr => ?_, fun hd hb hr => ?_⟩
  · rw [if_pos hd, refused]
  · rw [if_neg (by simp [hd]), if_pos hb, refused]
  · rw [if_neg (by simp [hd]), if_neg (by simp [hb]), if_pos (hallowed.mpr hr), refused]
  · rw [if_neg (by simp [hd]), if_neg (by simp [hb]), if_neg (fun h => hallowed.mp h hr)]
    exact congrArg _ (State.settleDrain_of_kept hs.1.1.2 rfl rfl fun _ _ _ => rfl)

/-! ### UNBIND (R23, R189) -/

section
variable {s : State} (hs : CommandReady s)
include hs

theorem exec_unbind_next : exec .unbind s = .next ((s.takeCommand 0x0022).unbindCommand).settleDrain := by
  rw [exec_unbind, busCommand_cmd hs]
  rfl

theorem exec_unbind_badIndex (h : 4 ≤ argPort s.command.args ∨ 4 ≤ argStream s.command.args) :
    exec .unbind s = .next (s.answered 0x0022 .badIndex) := by
  have refused : (s.takeCommand 0x0022).unbindCommand = s.answered 0x0022 .badIndex := by
    rw [← s.complete_takeCommand]
    unfold State.unbindCommand
    split
    · next p t hp ht =>
      have hp : portOf (argPort s.command.args) = some p := hp
      have ht : portOf (argStream s.command.args) = some t := ht
      rcases h with h | h
      · rw [portOf_eq_none h] at hp
        cases hp
      · rw [portOf_eq_none h] at ht
        cases ht
    · rfl
  rw [exec_unbind_next hs, refused, State.answered_settled hs.1.1.2]

end

/-- R23: the checks of UNBIND in their order. -/
theorem State.unbindCommand_takeCommand {s : State} {p : Port} {t : Stream}
    (hp : argPort s.command.args = p.val) (ht : argStream s.command.args = t.val) :
    (s.takeCommand 0x0022).unbindCommand =
      if s.slot p t = none then s.answered 0x0022 .notBound
      else if (s.context p t).state = .empty ∨ (s.context p t).state = .retired then
        (s.answered 0x0022 .done).unbindSlot p t
      else s.answered 0x0022 .contextLive := by
  have port : portOf (argPort (s.takeCommand 0x0022).command.staged) = some p := (congrArg portOf hp).trans (portOf_val p)
  have stream : portOf (argStream (s.takeCommand 0x0022).command.staged) = some t :=
    (congrArg portOf ht).trans (portOf_val t)
  have hslot : (s.takeCommand 0x0022).slot p t = s.slot p t := rfl
  have hcontext : (s.takeCommand 0x0022).context p t = s.context p t := rfl
  simp only [← s.complete_takeCommand, State.unbindCommand, port, stream, hslot, hcontext]
  cases s.slot p t with
  | none => rfl
  | some b => cases (s.context p t).state <;> rfl

/-- R23: the emptied context was not RETIRING, so no drain waits for it. -/
theorem State.settleDrain_of_unbindSlot {s : State} {p : Port} {t : Stream} (hs : DrainSettled s)
    (h : (s.context p t).state ≠ .retiring) : (s.unbindSlot p t).settleDrain = s.unbindSlot p t := by
  refine State.settleDrain_settled (drainSettled_congr hs rfl (fun q u => ?_) fun _ _ _ => rfl)
  rw [State.unbindSlot, State.setSlot_context, State.setContext_context]
  split
  · next hq =>
    obtain ⟨rfl, rfl⟩ := hq
    exact ⟨nofun, fun hr => absurd hr h⟩
  · rfl

/-- Settles O37: the first check that fails answers, and with none slot and context are emptied. -/
theorem unbindResult : Obligations.UnbindResult := by
  intro s hs a taken
  refine ⟨exec_unbind_badIndex hs, fun p t hp ht => ?_⟩
  intro state
  have refused (code : ResultCode) : (s.answered 0x0022 code).settleDrain = taken code :=
    State.answered_settled hs.1.1.2 _ _
  have settled : DrainSettled (s.answered 0x0022 .done) := hs.1.1.2
  have hstate : (s.context p t).state = state := rfl
  rw [exec_unbind_next hs, State.unbindCommand_takeCommand hp ht, hstate]
  refine ⟨fun hb => ?_, fun hb hc => ?_, fun hb hc => ?_⟩
  · rw [if_pos hb, refused]
  · rw [if_neg hb, if_neg (by rcases hc with hc | hc | hc <;> simp [hc]), refused]
  · rw [if_neg hb, if_pos hc, State.settleDrain_of_unbindSlot settled]
    · rfl
    · show state ≠ .retiring
      rcases hc with hc | hc <;> simp [hc]

/-! ### Read cycles (R41, R160, R176, R183) -/

/-- R144, R180: a read cycle that leaves the drain, the contexts and the ports as they were is its effect alone. -/
theorem busCommand_read {s t : State} (hs : BusFree s) {r : Register} {released : Bool}
    (hw : s.readCycle r released = t) (hr : t.retire = s.retire) (hc : t.contexts = s.contexts)
    (hp : t.ports = s.ports) : busCommand s (.read r released) = .next t := by
  obtain ⟨⟨hreset, hdrain⟩, hh⟩ := hs
  rw [busCommand_next hreset hh]
  subst hw
  exact congrArg _ (State.settleDrain_of_kept hdrain hr hc fun p u _ => State.inFlight_of_ports hp p u)

/-- R185: count and overflow flag of an error counter as read. -/
theorem ErrorCounter.word_or (c : ErrorCounter) :
    c.word = BitVec.ofNat 16 c.count ||| if c.overflow then 0x0080 else 0 := by
  rw [ErrorCounter.word, Word.place_at_zero]
  cases c.overflow <;> rfl

/-- R183: the registers whose read cycle changes nothing but the data lines. -/
def Register.readsPlainly : Register → Bool
  | .errorCounter _ | .ctxCursor false | .hostCursor false | .hostData => false
  | _ => true

theorem State.readCycle_of_readsPlainly {s : State} {r : Register} (released : Bool) (h : r.readsPlainly = true) :
    s.readCycle r released = s.drive (s.readRegister r) := by
  cases r with
  | errorCounter | hostData => cases h
  | ctxCursor hi | hostCursor hi =>
    cases hi with
    | false => cases h
    | true => rfl
  | _ => rfl

/-- R183: the offsets of the reads with a side effect, A0 aside. -/
theorem registerAt_readsPlainly : ∀ offset : BitVec 8,
    (offset &&& 0xFE) ∉ ([0x42, 0x44, 0x46, 0x48, 0x4A, 0x52, 0x5A, 0x5E] : List (BitVec 8)) →
    (registerAt offset).readsPlainly = true := by
  decide

/-- Settles O51: each access leaves the drain as it was, so its effect is the whole next state. -/
theorem accessesWithASideEffect : Obligations.AccessesWithASideEffect := by
  intro s early hs
  refine ⟨fun v => ?_, fun q => ?_, fun p t h => ?_, fun h => ?_, ?_, fun q => ?_, rfl, rfl, rfl, fun offset ho => ?_⟩
  · exact busCommand_write hs rfl rfl rfl fun _ _ => rfl
  · rw [← ErrorCounter.word_or]
    exact busCommand_read hs rfl rfl rfl rfl
  · rw [← State.selectedCursor_head (selectedContext_head h)]
    exact busCommand_read hs rfl rfl rfl rfl
  · rw [← State.selectedCursor_host (selectedContext_host h)]
    exact busCommand_read hs rfl rfl rfl rfl
  · exact busCommand_read hs rfl rfl rfl rfl
  · rw [busRead, registerAt_errorCounter]
    rfl
  · exact busCommand_read hs (State.readCycle_of_readsPlainly early (registerAt_readsPlainly offset ho)) rfl rfl rfl

end Sys2Proof.Machine

/-! PROOFS. RETIRED where it is not in class 2 (R79, R163, R164): the claims of one event as one change of the state. -/

namespace Sys2Proof.Machine

/-! ### A claim taken -/

/-- What taking a claim reads and changes. -/
def State.signals (s : State) : FaultUnit × InterruptUnit := (s.faults, s.interrupts)

theorem State.signals_ext {s t : State} (hf : t.faults = s.faults) (hi : t.interrupts = s.interrupts) :
    t.signals = s.signals := Prod.ext hf hi

/-- The state with its fault unit and interrupt unit given. -/
def State.withSignals (s : State) (x : FaultUnit × InterruptUnit) : State :=
  { s with faults := x.1, interrupts := x.2 }

theorem State.offerClaim_eq (s : State) (c : Claim) : s.offerClaim c = s.withSignals (s.offerClaim c).signals := by
  unfold State.offerClaim
  (repeat' split) <;> rfl

theorem State.takeClaim_eq (s : State) (c : Claim) : s.takeClaim c = s.withSignals (s.takeClaim c).signals := by
  unfold State.takeClaim
  split
  · rfl
  · exact State.offerClaim_eq _ c
  · rw [State.offerClaim_eq]
    rfl

/-- What taking a claim does to the two units is read off them alone. -/
theorem State.takeClaim_withSignals (s t : State) (c : Claim) :
    ((t.withSignals s.signals).takeClaim c).signals = (s.takeClaim c).signals := by
  have offered (u v : State) (h : v.signals = u.signals) : (v.offerClaim c).signals = (u.offerClaim c).signals := by
    obtain ⟨hf, hi⟩ := Prod.mk.inj h
    unfold State.offerClaim
    rw [hf]
    (repeat' split) <;> simp [State.signals, hi]
  unfold State.takeClaim
  have hclass : (t.withSignals s.signals).faults = s.faults := rfl
  rw [hclass]
  split
  · rfl
  · exact offered _ _ rfl
  · have h := offered (s.countClaim c.source) ((t.withSignals s.signals).countClaim c.source) rfl
    obtain ⟨hf, hi⟩ := Prod.mk.inj h
    exact State.signals_ext (congrArg (fun f : FaultUnit => { f with alert := true }) hf) hi

theorem State.takeClaim_congr {s t : State} (h : t.signals = s.signals) (c : Claim) :
    (t.takeClaim c).signals = (s.takeClaim c).signals := by
  have ht : t = t.withSignals s.signals := by
    rw [← h]
    rfl
  rw [ht]
  exact State.takeClaim_withSignals s t c

theorem State.takeClaim_classMap (s : State) (c : Claim) : (s.takeClaim c).faults.classMap = s.faults.classMap := by
  have offered (u : State) : (u.offerClaim c).faults.classMap = u.faults.classMap := by
    unfold State.offerClaim
    (repeat' split) <;> rfl
  unfold State.takeClaim
  split
  · rfl
  · exact offered _
  · exact offered _

/-- The two units after the claims of one event, taken in order. -/
def State.claimed (s : State) (cs : List Claim) : FaultUnit × InterruptUnit := (cs.foldl State.takeClaim s).signals

theorem State.claimed_cons (s : State) (c : Claim) (cs : List Claim) :
    s.claimed (c :: cs) = (s.takeClaim c).claimed cs := rfl

theorem State.claimed_congr {s t : State} (h : t.signals = s.signals) (cs : List Claim) :
    t.claimed cs = s.claimed cs := by
  induction cs generalizing s t with
  | nil => exact h
  | cons c cs ih =>
    rw [State.claimed_cons, State.claimed_cons]
    exact ih (State.takeClaim_congr h c)

theorem State.claimed_append (s : State) (cs ds : List Claim) :
    s.claimed (cs ++ ds) = (cs.foldl State.takeClaim s).claimed ds := by
  rw [State.claimed, List.foldl_append]
  rfl

/-! ### RETIRED raised (R79) -/

/-- R79: the state with the RETIRED report flag of the given ports set. -/
def State.flagRetired (s : State) (flagged : Port → Bool) : State :=
  { s with
    ports := Bank.tabulate fun p =>
      { s.port p with
        reportFlags := if flagged p then (s.port p).reportFlags ||| 0x1000 else (s.port p).reportFlags } }

theorem State.flagRetired_port (s : State) (flagged : Port → Bool) (p : Port) :
    (s.flagRetired flagged).port p =
      { s.port p with
        reportFlags := if flagged p then (s.port p).reportFlags ||| 0x1000 else (s.port p).reportFlags } := by
  simp [State.flagRetired, State.port]

theorem State.flagRetired_none (s : State) : (s.flagRetired fun _ => false) = s := by
  have : (Bank.tabulate fun p => s.port p) = s.ports := Bank.ext_get fun p => by simp [State.port]
  simp [State.flagRetired, this]

theorem State.flagRetired_flagRetired (s : State) (f g : Port → Bool) :
    (s.flagRetired f).flagRetired g = s.flagRetired fun p => f p || g p := by
  have ports : ((s.flagRetired f).flagRetired g).ports = (s.flagRetired fun p => f p || g p).ports := by
    refine Bank.ext_get fun p => ?_
    show ((s.flagRetired f).flagRetired g).port p = (s.flagRetired fun p => f p || g p).port p
    simp only [State.flagRetired_port]
    cases f p <;> cases g p <;> simp [BitVec.or_assoc]
  exact congrArg (fun x => { s with ports := x }) ports

/-- A RETIRED claim of a port. -/
theorem State.flagClaim_retired (s : State) {c : Claim} (hk : c.kind = .retired) :
    s.flagClaim c = s.flagRetired fun p => c.source == .port p := by
  unfold State.flagClaim
  split
  · next h =>
    have none_flagged : (fun p : Port => c.source == .port p) = fun _ => false := by
      funext p
      simp [h]
    rw [none_flagged, State.flagRetired_none]
  · next p h =>
    have ports : (s.setReportFlag p c.kind).ports = (s.flagRetired fun q => c.source == .port q).ports := by
      refine Bank.ext_get fun q => ?_
      show (s.setReportFlag p c.kind).port q = (s.flagRetired fun q => c.source == .port q).port q
      rw [State.flagRetired_port, State.setReportFlag, State.setPort_port, h, hk]
      by_cases hq : p = q
      · subst hq
        have bit : BitVec.twoPow 16 12 = 0x1000 := by decide
        simp [withReportFlag, FaultKind.number, bit]
      · simp [hq]
    exact congrArg (fun x => { s with ports := x }) ports

/-- R79, R164: a fault outside class 2 sets its flag and goes to the fault unit, and does nothing more. -/
theorem State.raise_retired {s : State} (hs : s.faults.classMap.get 12 ≠ .class2) {c : Claim} (hk : c.kind = .retired) :
    s.raise c = (s.flagRetired fun p => c.source == .port p).withSignals (s.takeClaim c).signals := by
  have hclass : classIn ((s.flagClaim c).takeClaim c).faults.classMap c.kind ≠ .class2 := by
    rw [State.takeClaim_classMap, State.flagClaim_retired s hk, hk]
    exact hs
  have quiet : ((s.flagClaim c).takeClaim c).classTwoAction c = (s.flagClaim c).takeClaim c := by
    unfold State.classTwoAction
    split
    · rfl
    · exact if_neg fun h => hclass h.1
  rw [State.raise, quiet, State.takeClaim_eq, State.flagClaim_retired s hk]
  exact congrArg _ (State.takeClaim_congr (s := s) (t := s.flagRetired _) rfl c)

/-- R79, R163: several RETIRED claims outside class 2. -/
theorem State.raiseAll_retired {s : State} (hs : s.faults.classMap.get 12 ≠ .class2) {cs : List Claim}
    (hk : ∀ c ∈ cs, c.kind = .retired) :
    s.raiseAll cs = (s.flagRetired fun p => cs.any fun c => c.source == .port p).withSignals (s.claimed cs) := by
  induction cs generalizing s with
  | nil => exact (congrArg (fun u : State => u.withSignals s.signals) s.flagRetired_none).symm
  | cons c cs ih =>
    have hc := hk c List.mem_cons_self
    have hmap : (s.raise c).faults.classMap.get 12 ≠ .class2 := by
      rw [State.raise_retired hs hc]
      show (s.takeClaim c).faults.classMap.get 12 ≠ .class2
      rwa [State.takeClaim_classMap]
    have hsignals : (s.raise c).signals = (s.takeClaim c).signals := by
      rw [State.raise_retired hs hc]
      rfl
    have hall : s.raiseAll (c :: cs) = (s.raise c).raiseAll cs := rfl
    rw [hall, ih hmap fun d hd => hk d (List.mem_cons_of_mem _ hd), State.claimed_congr hsignals, State.claimed_cons,
      State.raise_retired hs hc]
    show ((s.flagRetired _).flagRetired _).withSignals _ = _
    rw [State.flagRetired_flagRetired]
    rfl

end Sys2Proof.Machine

/-! PROOFS. RETIRE in drain mode (R138, R142). -/

namespace Sys2Proof.Machine

/-! ### The take, where RETIRED is not in class 2 -/

/-- R138: the take of a RETIRE where RETIRED is not in class 2. -/
theorem State.retireTake_retired {s : State} (hs : s.faults.classMap.get 12 ≠ .class2) (x : Scope) :
    s.retireTake x =
      ((s.taken x).flagRetired fun p => (s.port p).returns.any fun e => s.affects x p e.stream).withSignals
        (s.claimed (s.entryClaims x)) := by
  have hmap : (s.taken x).faults.classMap.get 12 ≠ .class2 := hs
  rw [State.retireTake_eq, State.raiseAll_retired hmap (s.entryClaims_kind x),
    State.claimed_congr (s := s) (t := s.taken x) rfl]
  simp only [State.entryClaims_any]

/-- R133, R136: the completion of a RETIRE, in the unit and in the engine; its details are the engine's counts. -/
theorem State.completeRetire_units (s : State) (code : ResultCode) :
    (s.completeRetire code).command =
        { s.command with
          busy := false
          result := code
          details := Bank.tabulate fun k =>
            BitVec.ofNat 8 (if k = 0 then s.retire.retired else if k = 1 then s.retire.drained else s.retire.aborted) } ∧
      (s.completeRetire code).retire = { s.retire with phase := .idle, affected := [], timer := none } ∧
      (s.completeRetire code).interrupts = { s.interrupts with cmdDone := true } := by
  rw [State.completeRetire_eq]
  exact ⟨rfl, rfl, rfl⟩

/-! ### RETIRE in drain mode (R142) -/

/-- R124: a RETIRE is taken by the unit. -/
theorem busCommand_retire {s : State} (hs : CommandReady s) :
    busCommand s (.write .cmd 0x0031) = .next ((s.takeCommand 0x0031).retireCommand).settleDrain :=
  busCommand_cmd hs 0x0031

section
variable {s : State} {x : Scope} (hx : retireScope s.command.args = .ok x)
include hx

theorem State.retireCommand_drain (ha : s.affectedSet x ≠ []) (hd : argDrain s.command.args = true) :
    (s.takeCommand 0x0031).retireCommand = ((s.takeCommand 0x0031).retireTake x).beginDrain := by
  have hx : retireScope (s.takeCommand 0x0031).command.staged = .ok x := hx
  have ha : (s.takeCommand 0x0031).affectedSet x ≠ [] := ha
  have hd : argDrain (s.takeCommand 0x0031).command.staged = true := hd
  rw [State.retireCommand, hx]
  simp only [ha, hd, if_true, if_false]

theorem State.retireCommand_abort (ha : s.affectedSet x ≠ []) (hd : argDrain s.command.args = false) :
    (s.takeCommand 0x0031).retireCommand =
      (((s.takeCommand 0x0031).retireTake x).abortRetiring).completeRetire .done := by
  have hx : retireScope (s.takeCommand 0x0031).command.staged = .ok x := hx
  have ha : (s.takeCommand 0x0031).affectedSet x ≠ [] := ha
  have hd : argDrain (s.takeCommand 0x0031).command.staged = false := hd
  rw [State.retireCommand, hx]
  simp only [ha, hd, if_false, Bool.false_eq_true]

theorem State.retireCommand_none (ha : s.affectedSet x = []) :
    (s.takeCommand 0x0031).retireCommand = s.answered 0x0031 .done := by
  have hx : retireScope (s.takeCommand 0x0031).command.staged = .ok x := hx
  have ha : (s.takeCommand 0x0031).affectedSet x = [] := ha
  rw [State.retireCommand, hx, ← State.complete_takeCommand]
  simp only [ha, if_true]

end

/-- The state in which a RETIRE in drain mode leaves the part before the end of its event. -/
def State.drainBegun (s : State) (x : Scope) : State :=
  (((s.taken x).flagRetired fun p => (s.port p).returns.any fun e => s.affects x p e.stream).withSignals
    (s.claimed (s.entryClaims x))).beginDrain

/-- What the take and the beginning of the drain leave alone. -/
theorem State.drainBegun_frame (s : State) (x : Scope) :
    (s.drainBegun x).arbiter = s.arbiter ∧ (s.drainBegun x).store = s.store ∧
      (s.drainBegun x).apertures = s.apertures ∧ (s.drainBegun x).marks = s.marks ∧
      (s.drainBegun x).bindings = s.bindings := by
  simp only [State.drainBegun, State.beginDrain, State.withSignals, State.flagRetired, State.taken, State.withContexts,
    and_self]

/-- R135, R136, R142: the unit, the engine and the host context as the drain begins. -/
theorem State.drainBegun_units (s : State) (x : Scope) :
    (s.drainBegun x).command = { s.command with busy := true } ∧
      (s.drainBegun x).retire = { s.retire with
        phase := .draining
        affected := s.affectedSet x
        retired := (s.affectedSet x).length
        drained := 0
        aborted := 0
        timer := if s.retire.drainLimit = 0 then none else some (s.retire.drainLimit.toNat * 16) } ∧
      (s.drainBegun x).hostContext = (if s.hostAffected x then s.hostContext.retire else s.hostContext) ∧
      (s.drainBegun x).signals = s.claimed (s.entryClaims x) := by
  simp only [State.drainBegun, State.beginDrain, State.withSignals, State.flagRetired, State.taken, State.withContexts,
    State.signals, and_self, true_and, and_true]
  rfl

theorem State.drainBegun_context (s : State) (x : Scope) (p : Port) (t : Stream) :
    (s.drainBegun x).context p t = if s.affects x p t then (s.context p t).startRetiring else s.context p t := by
  have contexts : (s.drainBegun x).contexts = (s.taken x).contexts := by
    simp only [State.drainBegun, State.beginDrain, State.withSignals, State.flagRetired]
  rw [← State.taken_context, State.context, State.context, contexts]

theorem State.drainBegun_port (s : State) (x : Scope) (p : Port) :
    (s.drainBegun x).port p =
      { s.port p with
        returns := (s.port p).returns.filter fun e => !s.affects x p e.stream
        reportFlags :=
          if (s.port p).returns.any fun e => s.affects x p e.stream then (s.port p).reportFlags ||| 0x1000
          else (s.port p).reportFlags } := by
  have port : (s.drainBegun x).port p = ((s.taken x).flagRetired _).port p := rfl
  rw [port, State.flagRetired_port, State.taken_port]

/-- R26: the in-flight counts are those before the take. -/
theorem State.drainBegun_inFlight (s : State) (x : Scope) (p : Port) (t : Stream) :
    (s.drainBegun x).inFlight p t = s.inFlight p t := by
  simp only [State.inFlight, State.drainBegun_port]

section
variable {s : State} (hnone : ∀ (p : Port) (t : Stream), (s.context p t).state ≠ .retiring) (x : Scope)
include hnone

theorem State.drainBegun_retiring (p : Port) (t : Stream) :
    ((s.drainBegun x).context p t).state = .retiring ↔ s.affects x p t = true := by
  rw [State.drainBegun_context, ← State.taken_context]
  exact State.taken_retiring hnone x p t

/-- R142, R144: the contexts at the end of the event that begins a drain. -/
theorem State.drainBegun_drainedContext (p : Port) (t : Stream) :
    (s.drainBegun x).drainedContext p t =
      if s.affects x p t then
        if s.inFlight p t = 0 then { s.context p t with state := .retired, cursor := 0, endIndicator := false }
        else { s.context p t with state := .retiring, endIndicator := (s.context p t).state == .ended }
      else s.context p t := by
  simp only [State.drainedContext, State.drainBegun_inFlight, State.drainBegun_context]
  by_cases ha : s.affects x p t = true
  · by_cases hi : s.inFlight p t = 0
    · simp [ha, hi, HeadContext.retire, HeadContext.startRetiring]
    · simp [ha, hi, HeadContext.startRetiring]
  · simp [ha, hnone p t]

end

/-- R142: the details of a RETIRE that waits for nothing. -/
theorem drainDetails (count : Nat) :
    (Bank.tabulate fun k : Fin 3 => BitVec.ofNat 8 (if k = 0 then count else if k = 1 then 0 else 0)) =
      Bank.tabulate fun k => if k = 0 then BitVec.ofNat 8 count else 0 := by
  refine Bank.ext_get fun k => ?_
  simp only [Bank.get_tabulate]
  split <;> simp

/-- The end of the event, as the engine sees it: what is in flight decides. -/
theorem exec_retireDrain_next {s : State} {x : Scope} (hs : CommandReady s)
    (hx : retireScope s.command.args = .ok x) (hdrain : argDrain s.command.args = true)
    (hclass : s.faults.classMap.get 12 ≠ .class2) (ha : s.affectedSet x ≠ []) :
    exec .retireDrain s = .next ((s.takeCommand 0x0031).drainBegun x).settleDrain := by
  have take := State.retireTake_retired (s := s.takeCommand 0x0031) hclass x
  rw [exec_retireDrain, busCommand_retire hs, State.retireCommand_drain hx ha hdrain, take]
  rfl

/-- Settles O44: what the take leaves is the same with and without units in flight; the end of the event settles what
has none. -/
theorem retireDrainBeginsTheDrain : Obligations.RetireDrainBeginsTheDrain := by
  intro s x hs hidle hnone hx hdrain hclass covered hostCovered count claims raised taken
  have hhost : s.hostAffected x = hostCovered := Bool.and_comm _ _
  have hcount : (s.affectedSet x).length = count := by
    rw [State.affectedSet_length, hhost]
    rfl
  have hexec (hpos : count ≠ 0) := exec_retireDrain_next hs hx hdrain hclass fun h => hpos (by rw [← hcount, h]; rfl)
  -- the state before the end of the event
  obtain ⟨u, hu⟩ : ∃ u, u = (s.takeCommand 0x0031).drainBegun x := ⟨_, rfl⟩
  have hframe := (s.takeCommand 0x0031).drainBegun_frame x
  have hunits := (s.takeCommand 0x0031).drainBegun_units x
  have hcontext := State.drainBegun_drainedContext (s := s.takeCommand 0x0031) hnone x
  have hretiring := State.drainBegun_retiring (s := s.takeCommand 0x0031) hnone x
  have hflight := (s.takeCommand 0x0031).drainBegun_inFlight x
  have hport := (s.takeCommand 0x0031).drainBegun_port x
  rw [← hu] at hexec hframe hunits hcontext hretiring hflight hport
  obtain ⟨hcommand, hretire, hhostContext, hsignals⟩ := hunits
  have hclaimed : u.signals = raised.signals :=
    hsignals.trans (State.claimed_congr (s := s) (t := s.takeCommand 0x0031) rfl claims)
  obtain ⟨hfaults, hinterrupts⟩ := Prod.mk.inj hclaimed
  have hphase : u.retire.phase = .draining := by rw [hretire]
  have htaken : taken (u.withContexts u.drainedContext) := by
    refine ⟨fun p t => ?_, hhostContext.trans (by rw [← hhost]; rfl), hfaults, hport, hframe⟩
    rw [State.withContexts_context]
    exact hcontext p t
  constructor
  · rintro ⟨p, t, hcov, hunit⟩
    have hpos : count ≠ 0 := by
      have hmem : (p, t) ∈ allHeads.filter fun h => covered h.1 h.2 := by simp [mem_allHeads, hcov]
      have := List.length_pos_of_mem hmem
      omega
    have hwait : ∃ (p : Port) (t : Stream), (u.context p t).state = .retiring ∧ u.inFlight p t ≠ 0 :=
      ⟨p, t, (hretiring p t).mpr hcov, by rw [hflight]; exact hunit⟩
    refine ⟨_, (hexec hpos).trans (congrArg _ (State.settleDrain_of_unit hphase hwait)), htaken, ?_⟩
    show u.command = _ ∧ u.retire.phase = _ ∧ u.retire.drained = _ ∧ u.retire.aborted = _ ∧ u.retire.retired = _ ∧
      u.retire.timer = _ ∧ u.interrupts = _
    rw [hcommand, hretire]
    exact ⟨rfl, rfl, rfl, rfl, hcount, rfl, hinterrupts⟩
  · intro hempty hpos
    have hdone : ∀ (p : Port) (t : Stream), (u.context p t).state = .retiring → u.inFlight p t = 0 := fun p t hr => by
      rw [hflight]
      exact hempty p t ((hretiring p t).mp hr)
    refine ⟨_, (hexec hpos).trans (congrArg _ (State.settleDrain_of_no_unit hphase hdone)), htaken, ?_⟩
    obtain ⟨command, retire, interrupts⟩ := State.completeRetire_units (u.withContexts u.drainedContext) .done
    have details : (Bank.tabulate fun k => BitVec.ofNat 8
        (if k = 0 then u.retire.retired else if k = 1 then u.retire.drained else u.retire.aborted)) =
        Bank.tabulate fun k : Fin 3 => if k = 0 then BitVec.ofNat 8 count else 0 := by
      rw [hretire, ← drainDetails, ← hcount]
      rfl
    refine ⟨command.trans ?_, congrArg _ retire, congrArg _ retire, congrArg _ retire, interrupts.trans ?_⟩
    · show ({ u.command with
          busy := false
          result := .done
          details := Bank.tabulate fun k => BitVec.ofNat 8
            (if k = 0 then u.retire.retired else if k = 1 then u.retire.drained else u.retire.aborted) } : CommandUnit) = _
      rw [details, hcommand]
      rfl
    · rw [← hinterrupts]
      rfl

end Sys2Proof.Machine

/-! PROOFS. In-flight units and the aborted count (R26, R145): what an event takes from the units of RETIRING contexts it
adds to the count. -/

namespace Sys2Proof.Machine

/-! ### The aborted count -/

/-- R145: one more aborted unit; the count saturates. -/
def countOne (n : Nat) : Nat := min 255 (n + 1)

theorem countOne_iterate {n : Nat} (h : n ≤ 255) (k : Nat) : countOne^[k] n = min 255 (n + k) := by
  induction k with
  | zero => simp [h]
  | succ k ih =>
    rw [Function.iterate_succ_apply', ih, countOne]
    omega

/-- Whether a head context is RETIRING: the abort forces it (R140). -/
def State.forced (s : State) (p : Port) (t : Stream) : Bool := (s.context p t).state == .retiring

theorem State.forced_iff {s : State} {p : Port} {t : Stream} :
    s.forced p t = true ↔ (s.context p t).state = .retiring := beq_iff_eq

theorem State.forced_of_contexts {s u : State} (h : u.contexts = s.contexts) : u.forced = s.forced := by
  funext p t
  simp only [State.forced, State.context, h]

/-- R145: the units of several items end by an abort: those of RETIRING contexts count. -/
theorem State.unitsEnded_aborted (s : State) (p : Port) (items : List WorkItem) :
    s.unitsEnded p items .aborted =
      s.withAborted (countOne^[items.countP fun i => s.forced p i.stream] s.retire.aborted) := by
  unfold State.unitsEnded
  induction items generalizing s with
  | nil => rfl
  | cons i items ih =>
    rw [List.foldl_cons, State.unitEnded_aborted, ih, List.countP_cons]
    by_cases h : s.forced p i.stream = true
    · rw [if_pos (State.forced_iff.mp h), if_pos h]
      rfl
    · rw [if_neg (mt State.forced_iff.mpr h), if_neg h]
      rfl

/-! ### The units that have not been counted -/

/-- R118: whether the RETURN being sent is of a forced stream and has not been cut short. -/
def Builder.cuts (b : Builder) (f : Stream → Bool) : Bool := b.current.any fun r => f r.stream && !r.zeroFilled

/-- R26, R145: the in-flight units of the forced streams of a port that no command has counted. -/
def PortState.owed (x : PortState) (f : Stream → Bool) : Nat :=
  (x.queue.countP fun i => f i.stream && !i.isCounted) + if x.builder.cuts f then 1 else 0

/-- Those of all RETIRING contexts. -/
def State.owed (s : State) : Nat := (allPorts.map fun p => (s.port p).owed (s.forced p)).sum

theorem PortState.owed_none (x : PortState) : x.owed (fun _ => false) = 0 := by
  simp [PortState.owed, Builder.cuts]

theorem State.owed_of_none {s : State} (h : ∀ p t, s.forced p t = false) : s.owed = 0 := by
  have none_forced (p : Port) : s.forced p = fun _ => false := funext (h p)
  simp [State.owed, none_forced, PortState.owed_none]

/-- R145: from one state to the next, the units that RETIRING contexts lose are added to the aborted count. -/
def CountsLost (s u : State) : Prop :=
  ∃ k : Nat, s.owed = u.owed + k ∧ u.retire.aborted = countOne^[k] s.retire.aborted

theorem CountsLost.refl (s : State) : CountsLost s s := ⟨0, rfl, rfl⟩

theorem CountsLost.trans {s u v : State} (h : CountsLost s u) (h' : CountsLost u v) : CountsLost s v := by
  obtain ⟨k, howed, haborted⟩ := h
  obtain ⟨k', howed', haborted'⟩ := h'
  refine ⟨k' + k, by omega, ?_⟩
  rw [Function.iterate_add_apply, ← haborted, haborted']

theorem CountsLost.foldl {α : Type} {f : State → α → State} (h : ∀ s a, CountsLost s (f s a)) (l : List α) (s : State) :
    CountsLost s (l.foldl f s) := by
  induction l generalizing s with
  | nil => exact .refl s
  | cons a l ih => exact (h s a).trans (ih _)

/-- What happens at one port is counted there. -/
theorem CountsLost.of_port {s u : State} {p : Port} {k : Nat}
    (hothers : ∀ q ≠ p, (u.port q).owed (u.forced q) = (s.port q).owed (s.forced q))
    (hport : (s.port p).owed (s.forced p) = (u.port p).owed (u.forced p) + k)
    (haborted : u.retire.aborted = countOne^[k] s.retire.aborted) : CountsLost s u := by
  have each (q : Port) : (s.port q).owed (s.forced q) = (u.port q).owed (u.forced q) + if q = p then k else 0 := by
    split
    · next h => rw [h, hport]
    · next h => rw [hothers q h, Nat.add_zero]
  have one_port : (allPorts.map fun q => if q = p then k else 0).sum = k := by
    fin_cases p <;> simp [allPorts]
  refine ⟨k, ?_, haborted⟩
  simp only [State.owed, each, List.sum_map_add, one_port]

/-- Nothing is lost where the units, the contexts and the count stand. -/
theorem CountsLost.of_same {s u : State} (hcontexts : u.contexts = s.contexts)
    (hqueue : ∀ p, (u.port p).queue = (s.port p).queue) (hbuilder : ∀ p, (u.port p).builder = (s.port p).builder)
    (haborted : u.retire.aborted = s.retire.aborted) : CountsLost s u := by
  refine ⟨0, ?_, haborted⟩
  simp only [State.owed, PortState.owed, State.forced_of_contexts hcontexts, hqueue, hbuilder, Nat.add_zero]

/-! ### A fault raised, whatever its class -/

/-- What raising faults does: it changes the ports, the fault unit, the interrupts and the aborted count, and nothing
else; the units it removes are counted. -/
structure Reported (s u : State) : Prop where
  frame : ∃ (ports : Bank 4 PortState) (x : FaultUnit × InterruptUnit) (n : Nat),
    u = (({ s with ports := ports } : State).withSignals x).withAborted n
  builder : ∀ p, (u.port p).builder = (s.port p).builder
  counts : CountsLost s u

theorem Reported.refl (s : State) : Reported s s :=
  ⟨⟨s.ports, s.signals, s.retire.aborted, rfl⟩, fun _ => rfl, .refl s⟩

theorem Reported.trans {s u v : State} (h : Reported s u) (h' : Reported u v) : Reported s v := by
  refine ⟨?_, fun p => (h'.builder p).trans (h.builder p), h.counts.trans h'.counts⟩
  obtain ⟨ports, x, n, rfl⟩ := h.frame
  obtain ⟨ports', x', n', rfl⟩ := h'.frame
  exact ⟨ports', x', n', rfl⟩

theorem Reported.foldl {α : Type} {f : State → α → State} (h : ∀ s a, Reported s (f s a)) (l : List α) (s : State) :
    Reported s (l.foldl f s) := by
  induction l generalizing s with
  | nil => exact .refl s
  | cons a l ih => exact (h s a).trans (ih _)

theorem Reported.withSignals (s : State) (x : FaultUnit × InterruptUnit) : Reported s (s.withSignals x) :=
  ⟨⟨s.ports, x, s.retire.aborted, rfl⟩, fun _ => rfl, .of_same rfl (fun _ => rfl) (fun _ => rfl) rfl⟩

theorem Reported.setPort {s : State} {p : Port} {x : PortState} (hqueue : x.queue = (s.port p).queue)
    (hbuilder : x.builder = (s.port p).builder) : Reported s (s.setPort p x) := by
  have port (q : Port) : (s.setPort p x).port q = if p = q then x else s.port q := s.setPort_port p q x
  have queue (q : Port) : ((s.setPort p x).port q).queue = (s.port q).queue := by
    rw [port]
    split
    · next h => rw [← h, hqueue]
    · rfl
  have builder (q : Port) : ((s.setPort p x).port q).builder = (s.port q).builder := by
    rw [port]
    split
    · next h => rw [← h, hbuilder]
    · rfl
  exact ⟨⟨s.ports.set p x, s.signals, s.retire.aborted, rfl⟩, builder, .of_same rfl queue builder rfl⟩

theorem Reported.skipReceiving (s : State) (p : Port) : Reported s (s.skipReceiving p) := by
  unfold State.skipReceiving
  split
  · exact .setPort rfl rfl
  · exact .refl s

/-- A RECEIVING item has not been counted. -/
theorem countP_uncounted_receiving (queue : List WorkItem) (f : Stream → Bool) :
    (queue.countP fun i => f i.stream && !i.isCounted) =
      ((queue.filter fun i => !i.isReceiving).countP fun i => f i.stream && !i.isCounted) +
        (queue.filter fun i => i.isReceiving).countP fun i => f i.stream := by
  induction queue with
  | nil => rfl
  | cons i queue ih =>
    have uncounted : i.isReceiving = true → i.isCounted = false := by
      cases h : i.state <;> simp [WorkItem.isReceiving, WorkItem.isCounted, h]
    cases hr : i.isReceiving with
    | false => simp [hr, List.countP_cons, ih]; omega
    | true => simp [hr, List.countP_cons, ih, uncounted hr]; omega

/-- R69, R145: a RECEIVING item is removed with its unit counted. -/
theorem Reported.removeReceiving (s : State) (p : Port) : Reported s (s.removeReceiving p .aborted) := by
  rw [State.removeReceiving, State.unitsEnded_aborted]
  refine ⟨⟨s.ports.set p { s.port p with queue := (s.port p).queue.filter fun i => !i.isReceiving }, s.signals,
    countOne^[((s.port p).queue.filter fun i => i.isReceiving).countP fun i => s.forced p i.stream] s.retire.aborted,
    rfl⟩, fun q => ?_, .of_port (p := p) (fun q hq => ?_) ?_ rfl⟩
  · rw [State.setPort_port]
    split
    · next h => rw [h]
    · rfl
  · rw [State.setPort_port, if_neg (Ne.symm hq)]
    rfl
  · rw [State.setPort_port, if_pos rfl]
    have uncounted := countP_uncounted_receiving (s.port p).queue (s.forced p)
    show _ = (((s.port p).queue.filter fun i => !i.isReceiving).countP fun i => s.forced p i.stream && !i.isCounted) +
      (if (s.port p).builder.cuts (s.forced p) then 1 else 0) + _
    rw [PortState.owed, uncounted]
    omega

theorem Reported.enterSuspended (s : State) (p : Port) : Reported s (s.enterSuspended p) := by
  unfold State.enterSuspended State.dropReceiving
  exact ((Reported.skipReceiving s p).trans (.removeReceiving _ p)).trans (.setPort rfl rfl)

theorem Reported.takeClaim (s : State) (c : Claim) : Reported s (s.takeClaim c) := by
  rw [State.takeClaim_eq]
  exact .withSignals s _

theorem Reported.flagClaim (s : State) (c : Claim) : Reported s (s.flagClaim c) := by
  unfold State.flagClaim State.setReportFlag
  split
  · exact .refl s
  · exact .setPort rfl rfl

theorem Reported.classTwoAction (s : State) (c : Claim) : Reported s (s.classTwoAction c) := by
  have latch (u : State) (p : Port) : Reported u (u.setSuspendLatch p) := .withSignals u (u.setSuspendLatch p).signals
  have flag (u : State) (p : Port) : Reported u (u.setReportFlag p .suspended) := by
    unfold State.setReportFlag
    exact .setPort rfl rfl
  unfold State.classTwoAction State.raiseSuspended
  (repeat' split)
  · exact .refl s
  · exact (((Reported.enterSuspended s _).trans (latch _ _)).trans (flag _ _)).trans (.takeClaim _ _)
  · exact .refl s

theorem Reported.raise (s : State) (c : Claim) : Reported s (s.raise c) := by
  rw [State.raise]
  exact ((Reported.flagClaim s c).trans (.takeClaim _ c)).trans (.classTwoAction _ c)

theorem Reported.raiseAll (s : State) (cs : List Claim) : Reported s (s.raiseAll cs) := by
  rw [State.raiseAll]
  exact .foldl Reported.raise cs s

section
variable {s u : State} (h : Reported s u)
include h

theorem Reported.contexts : u.contexts = s.contexts := by
  obtain ⟨ports, x, n, rfl⟩ := h.frame
  rfl

theorem Reported.request (p : Port) : u.request p = s.request p := by
  obtain ⟨ports, x, n, rfl⟩ := h.frame
  rfl

end

end Sys2Proof.Machine

/-! PROOFS. The abort of RETIRING contexts (R69, R118, R140): what it leaves of a port, of its outstanding request and of
the counts. -/

namespace Sys2Proof.Machine

/-! ### What an abort leaves of the parts of a port -/

/-- R69: what an abort leaves of an item of a forced stream: nothing, but for the cell in hand. -/
def WorkItem.aborted (i : WorkItem) : Option WorkItem :=
  match i.state with
  | .receiving _ => none
  | .ready => none
  | .committing c inHand _ _ => if inHand then some { i with state := .committing c true true true } else none

theorem WorkItem.cutOff_uncounted (i : WorkItem) : i.cutOff (!i.isCounted) = i.aborted := by
  cases h : i.state <;> simp [WorkItem.cutOff, WorkItem.aborted, WorkItem.isCounted, h]

theorem WorkItem.aborted_eq_some {i j : WorkItem} (h : i.aborted = some j) :
    j.stream = i.stream ∧ j.isReceiving = false ∧ j.isCounted = true ∧ j.aborted = some j := by
  unfold WorkItem.aborted at h
  split at h
  · cases h
  · cases h
  · split at h
    · cases h
      exact ⟨rfl, rfl, rfl, rfl⟩
    · cases h

/-- R69, R45: the work queue and the decoder, when the items of the forced streams are removed. -/
def PortState.cutItems (x : PortState) (f : Stream → Bool) : PortState :=
  { x with
    burst := if x.queue.any fun i => i.isReceiving && f i.stream then x.burst.map Burst.skipWrite else x.burst
    queue := x.queue.filterMap fun i => if f i.stream then i.aborted else some i }

/-- R118: a RETURN being sent for a forced stream, cut short. -/
def Builder.cutShort (b : Builder) (f : Stream → Bool) (onLine : Nat) : Builder :=
  { b with current := b.current.map fun r => if f r.stream && !r.zeroFilled then r.zeroFill onLine else r }

/-- R3, R140: an outstanding request after an abort; `cut` tells whether the RETURN that wanted its value is cut short. -/
def Request.cutOff (q : Request) (f : Stream → Bool) (cut : Bool) : Request :=
  { q with standing := q.standing && !q.stream.any f, wanted := q.wanted && !cut }

/-! ### An abort of no stream, and two aborts in turn -/

theorem PortState.cutItems_none (x : PortState) : x.cutItems (fun _ => false) = x := by
  simp [PortState.cutItems]

theorem Builder.cuts_none (b : Builder) : b.cuts (fun _ => false) = false := by simp [Builder.cuts]

theorem Builder.cutShort_of_not_cuts {b : Builder} {f : Stream → Bool} (h : b.cuts f = false) (k : Nat) :
    b.cutShort f k = b := by
  obtain ⟨phase, current, packetSent, snapshot⟩ := b
  cases current with
  | none => rfl
  | some r =>
    have : (f r.stream && !r.zeroFilled) = false := h
    simp only [Builder.cutShort, Option.map_some, this, Bool.false_eq_true, if_false]

theorem Request.cutOff_none (q : Request) : q.cutOff (fun _ => false) false = q := by simp [Request.cutOff]

theorem Burst.skipWrite_skipWrite (b : Burst) : b.skipWrite.skipWrite = b.skipWrite := by
  unfold Burst.skipWrite
  cases h : b.position with
  | take d n a c =>
    by_cases hd : headerType d = writeCode
    · simp [hd]
    · simp [hd, h]
  | check d low c =>
    by_cases hd : headerType d = writeCode
    · simp [hd]
    · simp [hd, h]
  | header _ => simp [h]
  | skip _ _ => simp [h]
  | discard => simp [h]

section
variable (f g : Stream → Bool)

/-- The RECEIVING items that the first of two aborts leaves are those of the other streams. -/
theorem PortState.cutItems_receiving (x : PortState) :
    ((x.cutItems f).queue.any fun i => i.isReceiving && g i.stream) =
      x.queue.any fun i => i.isReceiving && (g i.stream && !f i.stream) := by
  unfold PortState.cutItems
  induction x.queue with
  | nil => rfl
  | cons i queue ih =>
    simp only [List.filterMap_cons, List.any_cons]
    cases hf : f i.stream with
    | false => simp [ih]
    | true =>
      cases ha : i.aborted with
      | none => simp [ih]
      | some j =>
        obtain ⟨-, receiving, -, -⟩ := WorkItem.aborted_eq_some ha
        simp [ih, receiving]

theorem PortState.cutItems_cutItems (x : PortState) :
    (x.cutItems f).cutItems g = x.cutItems fun t => f t || g t := by
  have queue : ((x.cutItems f).cutItems g).queue = (x.cutItems fun t => f t || g t).queue := by
    simp only [PortState.cutItems, List.filterMap_filterMap]
    refine List.filterMap_congr fun i _ => ?_
    by_cases hf : f i.stream = true
    · cases ha : i.aborted with
      | none => simp [hf]
      | some j =>
        obtain ⟨-, -, -, again⟩ := WorkItem.aborted_eq_some ha
        simp [hf, again]
    · simp [hf]
  have burst : ((x.cutItems f).cutItems g).burst = (x.cutItems fun t => f t || g t).burst := by
    have either : (x.queue.any fun i => i.isReceiving && (f i.stream || g i.stream)) =
        ((x.queue.any fun i => i.isReceiving && f i.stream) ||
          x.queue.any fun i => i.isReceiving && (g i.stream && !f i.stream)) := by
      rw [Bool.eq_iff_iff]
      simp only [Bool.or_eq_true, List.any_eq_true, ← exists_or]
      refine exists_congr fun i => ?_
      cases f i.stream <;> simp
    have twice : (Burst.skipWrite ∘ Burst.skipWrite) = Burst.skipWrite := funext Burst.skipWrite_skipWrite
    show (if (x.cutItems f).queue.any fun i => i.isReceiving && g i.stream then (x.cutItems f).burst.map Burst.skipWrite
      else (x.cutItems f).burst) = if x.queue.any fun i => i.isReceiving && (f i.stream || g i.stream) then _ else _
    rw [PortState.cutItems_receiving, either]
    simp only [PortState.cutItems]
    cases x.queue.any fun i => i.isReceiving && f i.stream <;>
      cases x.queue.any fun i => i.isReceiving && (g i.stream && !f i.stream) <;>
        simp [twice]
  exact congrArg₂ (fun b q => { x with burst := b, queue := q }) burst queue

/-- R118: a RETURN is cut short once. -/
theorem Builder.cutShort_cuts (b : Builder) (k : Nat) : (b.cutShort f k).cuts g = b.cuts fun t => g t && !f t := by
  cases hc : b.current with
  | none => simp [Builder.cutShort, Builder.cuts, hc]
  | some r =>
    cases hf : f r.stream <;> cases hz : r.zeroFilled <;>
      simp [Builder.cutShort, Builder.cuts, hc, hf, hz, CurrentReturn.zeroFill]

theorem Builder.cuts_or (b : Builder) :
    (b.cuts f || b.cuts fun t => g t && !f t) = b.cuts fun t => f t || g t := by
  cases hc : b.current with
  | none => simp [Builder.cuts, hc]
  | some r => cases hf : f r.stream <;> simp [Builder.cuts, hc, hf]

/-- The first of two cuts is the one that counts. -/
theorem Builder.cutShort_cutShort (b : Builder) (k m : Nat) :
    (b.cutShort f k).cutShort g m = b.cutShort (fun t => f t || g t) (if b.cuts f then k else m) := by
  obtain ⟨phase, current, packetSent, snapshot⟩ := b
  cases current with
  | none => rfl
  | some r =>
    cases hz : r.zeroFilled with
    | true => simp [Builder.cutShort, hz]
    | false => cases hf : f r.stream <;> simp [Builder.cutShort, Builder.cuts, hz, hf, CurrentReturn.zeroFill]

theorem Request.cutOff_cutOff (q : Request) (a b : Bool) :
    (q.cutOff f a).cutOff g b = q.cutOff (fun t => f t || g t) (a || b) := by
  have streams : (q.stream.any f || q.stream.any g) = q.stream.any fun t => f t || g t := by
    cases q.stream <;> rfl
  simp only [Request.cutOff, ← streams, Bool.not_or, Bool.and_assoc]

end

end Sys2Proof.Machine

/-! PROOFS. The abort of one RETIRING context as one change of the state (R118, R140). -/

namespace Sys2Proof.Machine

/-- R140: the state after the abort of one RETIRING context, before the fault of a RETURN that it cuts short. -/
def State.cutContext (s : State) (p : Port) (t : Stream) : State :=
  let cut := (s.port p).builder.cuts (· == t)
  { s with
    ports := s.ports.set p
      { (s.port p).cutItems (· == t) with
        builder := (s.port p).builder.cutShort (· == t) (Config.cellsOnLine s.freeCount) }
    arbiter := { s.arbiter with
      portRequests := s.arbiter.portRequests.set p ((s.request p).map fun q => q.cutOff (· == t) cut) }
    contexts := s.contexts.set p ((s.contexts.get p).set t (s.context p t).retire)
    retire := { s.retire with aborted := countOne^[(s.port p).owed (· == t)] s.retire.aborted }
    freeCount := if cut then s.freeCount + 1 else s.freeCount }

/-- R45, R140: the decoder turns to SKIP if the abort takes the WRITE it is receiving. -/
theorem State.skipReceiving_of (s : State) (p : Port) (t : Stream) :
    (if (s.port p).queue.any fun i => i.isReceiving && i.stream == t then s.skipReceiving p else s) =
      s.setPort p
        { s.port p with
          burst := if (s.port p).queue.any fun i => i.isReceiving && i.stream == t then
            (s.port p).burst.map Burst.skipWrite else (s.port p).burst } := by
  by_cases h : ((s.port p).queue.any fun i => i.isReceiving && i.stream == t) = true
  · have some_receiving : ((s.port p).queue.any fun i => i.isReceiving) = true := by
      obtain ⟨i, hi, hr⟩ := List.any_eq_true.mp h
      exact List.any_eq_true.mpr ⟨i, hi, (Bool.and_eq_true_iff.mp hr).1⟩
    simp only [h, if_true, State.skipReceiving, some_receiving]
  · simp only [h, if_false, Bool.false_eq_true]
    exact (s.setPort_port_id p).symm

/-- The state after the removal of a stream's items and the end of its walk. -/
def State.cutWork (s : State) (p : Port) (t : Stream) : State :=
  { s with
    ports := s.ports.set p ((s.port p).cutItems (· == t))
    arbiter := { s.arbiter with
      portRequests := s.arbiter.portRequests.set p ((s.request p).map fun q => q.cutOff (· == t) false) }
    retire := { s.retire with
      aborted := countOne^[(s.port p).queue.countP fun i => i.stream == t && !i.isCounted] s.retire.aborted } }

theorem State.endWalk_eq (s : State) (p : Port) (t : Stream) :
    s.endWalk p t = s.setRequest p ((s.request p).map fun q => q.cutOff (· == t) false) := by
  have each (q : Request) : (if q.stream = some t then { q with standing := false } else q) = q.cutOff (· == t) false := by
    obtain ⟨access, row, column, stream, aperture, generation, marking, wanted, standing⟩ := q
    cases stream <;> simp [Request.cutOff]
    split <;> simp_all
  simp only [State.endWalk, each]

theorem State.cutWork_port (s : State) (p : Port) (t : Stream) : (s.cutWork p t).port p = (s.port p).cutItems (· == t) :=
  Bank.get_set_self _ _ _

theorem State.cutWork_request (s : State) (p : Port) (t : Stream) :
    (s.cutWork p t).request p = (s.request p).map fun q => q.cutOff (· == t) false := Bank.get_set_self _ _ _

theorem State.liveReturn_cutWork (s : State) (p : Port) (t : Stream) :
    (s.cutWork p t).liveReturn p t = s.liveReturn p t := by
  rw [State.liveReturn, State.cutWork_port]
  rfl

/-- R118: the RETURN that an abort cuts short, and whether there is one. -/
theorem State.liveReturn_eq_none {s : State} {p : Port} {t : Stream} :
    s.liveReturn p t = none ↔ (s.port p).builder.cuts (· == t) = false := by
  unfold State.liveReturn Builder.cuts
  cases (s.port p).builder.current with
  | none => simp
  | some r => by_cases h : r.stream = t <;> simp [h]

theorem State.liveReturn_eq_some {s : State} {p : Port} {t : Stream} {r : CurrentReturn} :
    s.liveReturn p t = some r ↔ (s.port p).builder.current = some r ∧ r.stream = t ∧ r.zeroFilled = false := by
  unfold State.liveReturn
  cases (s.port p).builder.current with
  | none => simp
  | some r' =>
    show (if r'.stream = t ∧ r'.zeroFilled = false then some r' else none) = some r ↔ _
    rw [Option.ite_none_right_eq_some]
    constructor
    · rintro ⟨h, ⟨⟩⟩
      exact ⟨rfl, h⟩
    · rintro ⟨⟨⟩, h⟩
      exact ⟨h, rfl⟩

/-- R118, R145: the RETURN of a RETIRING context is filled with zeros, and its unit counts. -/
theorem State.zeroFillReturn_eq {u : State} {p : Port} {r : CurrentReturn}
    (hu : (u.context p r.stream).state = .retiring) :
    u.zeroFillReturn p r =
      (((u.withAborted (countOne u.retire.aborted)).setRequest p
          ((u.request p).map fun q => { q with wanted := false })).setPort p
        { u.port p with
          builder := { (u.port p).builder with
            current := some (r.zeroFill (Config.cellsOnLine u.freeCount)) } }).drawFree := by
  rw [State.zeroFillReturn, State.unitEnded_aborted, if_pos hu]
  rfl

section
variable {s : State} {p : Port} {t : Stream} (hs : (s.context p t).state = .retiring)
include hs

/-- R69, R145: the items of a RETIRING stream are removed, and those not yet counted count. -/
theorem State.removeItems_of_retiring :
    s.removeItems p (fun i => i.stream == t) (fun i => !i.isCounted) =
      (s.withAborted (countOne^[(s.port p).queue.countP fun i => i.stream == t && !i.isCounted] s.retire.aborted)).setPort p
        { s.port p with queue := (s.port p).queue.filterMap fun i => if i.stream == t then i.aborted else some i } := by
  have uncounted : (((s.port p).queue.filter fun i => i.stream == t && !i.isCounted).countP fun i =>
      s.forced p i.stream) = (s.port p).queue.countP fun i => i.stream == t && !i.isCounted := by
    rw [List.countP_filter]
    refine List.countP_congr fun i _ => ?_
    simp only [Bool.and_eq_true, beq_iff_eq, State.forced]
    constructor
    · exact fun h => h.2
    · exact fun h => ⟨by rw [h.1, hs], h⟩
  have left (i : WorkItem) :
      (if i.stream == t then i.cutOff (!i.isCounted && (s.context p i.stream).state == .retiring) else some i) =
        if i.stream == t then i.aborted else some i := by
    split
    · next h => rw [beq_iff_eq.mp h, hs, ← WorkItem.cutOff_uncounted, beq_self_eq_true, Bool.and_true]
    · rfl
  simp only [State.removeItems, State.unitsEnded_aborted, uncounted, left]

/-- R69, R140: the abort of a RETIRING context, first without the RETURN that may be sent for it. -/
theorem State.abortContext_of_retiring :
    s.abortContext (p, t) =
      match (s.cutWork p t).liveReturn p t with
      | none => (s.cutWork p t).setContext p t ((s.cutWork p t).context p t).retire
      | some r =>
        (((s.cutWork p t).zeroFillReturn p r).setContext p t
          (((s.cutWork p t).zeroFillReturn p r).context p t).retire).raise (s.contextClaim .retired p t r.header) := by
  obtain ⟨u, hu⟩ : ∃ u, u = s.setPort p
      { s.port p with
        burst := if (s.port p).queue.any fun i => i.isReceiving && i.stream == t then
          (s.port p).burst.map Burst.skipWrite else (s.port p).burst } := ⟨_, rfl⟩
  have work : (u.removeItems p (fun i => i.stream == t) (fun i => !i.isCounted)).endWalk p t = s.cutWork p t := by
    have retiring : (u.context p t).state = .retiring := by rw [hu]; exact hs
    rw [State.removeItems_of_retiring retiring, hu, State.setPort_port, if_pos rfl]
    rw [State.endWalk_eq]
    simp only [State.cutWork, State.setPort, State.withAborted, Bank.set_set, PortState.cutItems, State.setRequest,
      State.request]
  simp only [State.abortContext, hs, if_true, State.skipReceiving_of, ← hu, work] <;> rfl

theorem State.abortContext_of_none (hr : s.liveReturn p t = none) : s.abortContext (p, t) = s.cutContext p t := by
  have hc := State.liveReturn_eq_none.mp hr
  rw [State.abortContext_of_retiring hs, State.liveReturn_cutWork, hr]
  simp only [State.cutContext, hc, Builder.cutShort_of_not_cuts hc, PortState.owed, if_false, Bool.false_eq_true,
    Nat.add_zero]
  rfl

/-- R118: a RETURN being sent is cut short with the rest, and raises RETIRED. -/
theorem State.abortContext_of_some {r : CurrentReturn} (hr : s.liveReturn p t = some r) :
    s.abortContext (p, t) = (s.cutContext p t).raise (s.contextClaim .retired p t r.header) := by
  obtain ⟨current, stream, whole⟩ := State.liveReturn_eq_some.mp hr
  have hc : (s.port p).builder.cuts (· == t) = true := by
    simp [Builder.cuts, current, stream, whole]
  have short (k : Nat) : (s.port p).builder.cutShort (· == t) k =
      { (s.port p).builder with current := some (r.zeroFill k) } := by
    simp [Builder.cutShort, current, stream, whole]
  have retiring : ((s.cutWork p t).context p r.stream).state = .retiring := stream ▸ hs
  have twice : ((s.cutWork p t).request p).map (fun q => { q with wanted := false }) =
      (s.request p).map fun q => q.cutOff (· == t) true := by
    rw [State.cutWork_request, Option.map_map]
    refine congrArg (fun f => (s.request p).map f) (funext fun q => ?_)
    simp [Request.cutOff]
  rw [State.abortContext_of_retiring hs, State.liveReturn_cutWork, hr]
  refine congrArg (fun u : State => u.raise _) ?_
  rw [State.context_of_walks (State.zeroFillReturn_walks _ _ _), State.zeroFillReturn_eq retiring, twice,
    State.cutWork_port]
  simp only [State.cutContext, hc, short, if_true, PortState.owed, Function.iterate_succ_apply']
  simp only [State.cutWork, State.setRequest, State.setPort, State.setContext, State.drawFree, State.withAborted,
    Bank.set_set]
  rfl

end

end Sys2Proof.Machine

/-! PROOFS. The abort of every RETIRING context (R140, R145, R147), whatever the classes of the faults. -/

namespace Sys2Proof.Machine

/-! ### What is left to count -/

section
variable (x : PortState) (f g : Stream → Bool)

/-- The units of the streams that an abort does not name are left to count. -/
theorem PortState.owed_cut (k : Nat) :
    ({ x.cutItems f with builder := x.builder.cutShort f k } : PortState).owed g = x.owed fun t => g t && !f t := by
  have items : ((x.cutItems f).queue.countP fun i => g i.stream && !i.isCounted) =
      x.queue.countP fun i => (g i.stream && !f i.stream) && !i.isCounted := by
    unfold PortState.cutItems
    induction x.queue with
    | nil => rfl
    | cons i queue ih =>
      by_cases hf : f i.stream = true
      · cases ha : i.aborted with
        | none => simpa [List.filterMap_cons, hf, ha] using ih
        | some j =>
          obtain ⟨-, -, counted, -⟩ := WorkItem.aborted_eq_some ha
          simpa [List.filterMap_cons, hf, ha, counted] using ih
      · simpa [List.filterMap_cons, List.countP_cons, hf] using ih
  simp only [PortState.owed, items, Builder.cutShort_cuts]

theorem PortState.owed_split {t : Stream} (hf : f t = true) :
    x.owed f = (x.owed fun u => f u && !(u == t)) + x.owed (· == t) := by
  have items : (x.queue.countP fun i => f i.stream && !i.isCounted) =
      (x.queue.countP fun i => (f i.stream && !(i.stream == t)) && !i.isCounted) +
        x.queue.countP fun i => i.stream == t && !i.isCounted := by
    induction x.queue with
    | nil => rfl
    | cons i queue ih =>
      by_cases h : i.stream = t
      · cases hc : i.isCounted with
        | false => simp [ih, h, hf, hc]; omega
        | true => simp [ih, h, hf, hc]
      · cases hc : i.isCounted with
        | false => simp [List.countP_cons, ih, h, hc]; omega
        | true => simp [ih, hc]
  have current : (if x.builder.cuts f then 1 else 0) =
      (if x.builder.cuts fun u => f u && !(u == t) then 1 else 0) + if x.builder.cuts (· == t) then 1 else 0 := by
    unfold Builder.cuts
    cases x.builder.current with
    | none => rfl
    | some r => by_cases h : r.stream = t <;> simp [h, hf]
  simp only [PortState.owed, items, current]
  omega

end

/-! ### An abort, of any set of head contexts -/

/-- What the abort of the contexts named by `f` leaves, whatever the classes of the faults it raises. -/
structure Aborts (s u : State) (f : Port → Stream → Bool) : Prop where
  frame : u.command = s.command ∧ u.store = s.store ∧ u.apertures = s.apertures ∧ u.marks = s.marks ∧
    u.bindings = s.bindings ∧ u.hostContext = s.hostContext ∧
    u.retire = { s.retire with aborted := u.retire.aborted }
  contexts : ∀ p t, u.context p t = if f p t then (s.context p t).retire else s.context p t
  builder : ∀ p, ∃ k, (u.port p).builder = (s.port p).builder.cutShort (f p) k
  request : ∀ p, u.request p = (s.request p).map fun q => q.cutOff (f p) ((s.port p).builder.cuts (f p))
  counts : CountsLost s u

/-- An abort, and then one of other contexts. -/
theorem Aborts.trans {s u v : State} {f g : Port → Stream → Bool} (h : Aborts s u f) (h' : Aborts u v g) :
    Aborts s v fun p t => f p t || g p t where
  frame := by
    obtain ⟨command, store, apertures, marks, bindings, host, retire⟩ := h.frame
    obtain ⟨command', store', apertures', marks', bindings', host', retire'⟩ := h'.frame
    refine ⟨command'.trans command, store'.trans store, apertures'.trans apertures, marks'.trans marks,
      bindings'.trans bindings, host'.trans host, ?_⟩
    rw [retire', retire]
  contexts p t := by
    rw [h'.contexts, h.contexts]
    cases f p t <;> cases g p t <;> rfl
  builder p := by
    obtain ⟨k, hk⟩ := h.builder p
    obtain ⟨m, hm⟩ := h'.builder p
    exact ⟨_, by rw [hm, hk, Builder.cutShort_cutShort]⟩
  request p := by
    obtain ⟨k, hk⟩ := h.builder p
    rw [h'.request, h.request, hk, Builder.cutShort_cuts, ← Builder.cuts_or, Option.map_map]
    refine congrArg (fun f => (s.request p).map f) (funext fun q => ?_)
    exact Request.cutOff_cutOff _ _ q _ _
  counts := h.counts.trans h'.counts

theorem Aborts.of_reported {s u : State} (h : Reported s u) : Aborts s u fun _ _ => false where
  frame := by
    obtain ⟨ports, x, n, rfl⟩ := h.frame
    exact ⟨rfl, rfl, rfl, rfl, rfl, rfl, rfl⟩
  contexts p t := by simp only [State.context, h.contexts, Bool.false_eq_true, if_false]
  builder p := ⟨0, by rw [h.builder, Builder.cutShort_of_not_cuts (Builder.cuts_none _)]⟩
  request p := by
    rw [h.request, Builder.cuts_none]
    simp only [Request.cutOff_none, Option.map_id']
  counts := h.counts

/-- The set of one head context. -/
def onlyHead (h : Port × Stream) (p : Port) (t : Stream) : Bool := h.1 == p && t == h.2

theorem onlyHead_iff {h : Port × Stream} {p : Port} {t : Stream} : onlyHead h p t = true ↔ h = (p, t) := by
  simp [onlyHead, Prod.ext_iff, eq_comm (a := t)]

theorem onlyHead_and_of_true {h : Port × Stream} {f : Port → Stream → Bool} (hf : f h.1 h.2 = true) :
    (fun p t => onlyHead h p t && f p t) = onlyHead h := by
  funext p t
  rw [Bool.eq_iff_iff, Bool.and_eq_true, and_iff_left_of_imp]
  intro ho
  rwa [onlyHead_iff.mp ho] at hf

theorem onlyHead_and_of_false {h : Port × Stream} {f : Port → Stream → Bool} (hf : f h.1 h.2 = false) :
    (fun p t => onlyHead h p t && f p t) = fun _ _ => false := by
  funext p t
  rw [Bool.and_eq_false_imp]
  intro ho
  rwa [onlyHead_iff.mp ho] at hf

theorem onlyHead_self (p : Port) (t : Stream) : onlyHead (p, t) p = (· == t) := by
  funext u
  simp [onlyHead]

theorem onlyHead_ne {h : Port × Stream} {p : Port} (hp : h.1 ≠ p) : onlyHead h p = fun _ => false := by
  funext u
  simp [onlyHead, hp]

section
variable (s : State) (p : Port) (t : Stream)

theorem State.cutContext_port (q : Port) :
    (s.cutContext p t).port q =
      if p = q then
        { (s.port p).cutItems (· == t) with
          builder := (s.port p).builder.cutShort (· == t) (Config.cellsOnLine s.freeCount) }
      else s.port q := Bank.get_set _ _ _ _

theorem State.cutContext_request (q : Port) :
    (s.cutContext p t).request q =
      if p = q then (s.request p).map fun r => r.cutOff (· == t) ((s.port p).builder.cuts (· == t))
      else s.request q := Bank.get_set _ _ _ _

theorem State.cutContext_context (q : Port) (u : Stream) :
    (s.cutContext p t).context q u = if onlyHead (p, t) q u then (s.context q u).retire else s.context q u := by
  have := State.setContext_context s p q t u (s.context p t).retire
  refine this.trans ?_
  simp only [onlyHead_iff, Prod.mk.injEq]
  split
  · next h =>
    obtain ⟨rfl, rfl⟩ := h
    rfl
  · rfl

end

theorem Aborts.cutContext {s : State} {p : Port} {t : Stream} (hs : s.forced p t = true) :
    Aborts s (s.cutContext p t) (onlyHead (p, t)) where
  frame := ⟨rfl, rfl, rfl, rfl, rfl, rfl, rfl⟩
  contexts := s.cutContext_context p t
  builder q := by
    refine ⟨Config.cellsOnLine s.freeCount, ?_⟩
    rw [State.cutContext_port]
    split
    · next h => rw [← h, onlyHead_self]
    · next h => rw [onlyHead_ne h, Builder.cutShort_of_not_cuts (Builder.cuts_none _)]
  request q := by
    rw [State.cutContext_request]
    split
    · next h => rw [← h, onlyHead_self]
    · next h =>
      rw [onlyHead_ne h, Builder.cuts_none]
      simp only [Request.cutOff_none, Option.map_id']
  counts := by
    have forced (q : Port) : (s.cutContext p t).forced q = fun u => s.forced q u && !onlyHead (p, t) q u := by
      funext u
      rw [State.forced, State.cutContext_context]
      cases onlyHead (p, t) q u <;> simp [State.forced, HeadContext.retire]
    refine .of_port (p := p) (fun q hq => ?_) ?_ rfl
    · rw [forced, State.cutContext_port, if_neg (Ne.symm hq), onlyHead_ne (Ne.symm hq)]
      simp only [Bool.not_false, Bool.and_true]
    · rw [forced, State.cutContext_port, if_pos rfl, PortState.owed_cut, onlyHead_self,
        PortState.owed_split _ _ hs]
      simp only [Bool.and_assoc, Bool.and_self]

/-- R140: the abort of one head context, which is nothing if it is not RETIRING. -/
theorem Aborts.abortContext (s : State) (h : Port × Stream) :
    Aborts s (s.abortContext h) fun p t => onlyHead h p t && s.forced p t := by
  obtain ⟨p, t⟩ := h
  cases hs : s.forced p t with
  | false =>
    rw [onlyHead_and_of_false hs, State.abortContext, if_neg fun hr => by simp [State.forced, hr] at hs]
    exact .of_reported (.refl s)
  | true =>
    rw [onlyHead_and_of_true hs]
    cases hr : s.liveReturn p t with
    | none =>
      rw [State.abortContext_of_none (State.forced_iff.mp hs) hr]
      exact .cutContext hs
    | some r =>
      rw [State.abortContext_of_some (State.forced_iff.mp hs) hr]
      have := (Aborts.cutContext hs).trans (.of_reported (.raise _ (s.contextClaim .retired p t r.header)))
      simpa only [Bool.or_false] using this

/-- The RETIRING contexts among some head contexts. -/
def State.forcedIn (s : State) (l : List (Port × Stream)) (p : Port) (t : Stream) : Bool :=
  l.contains (p, t) && s.forced p t

/-- After the abort of one, the RETIRING contexts among others are those that are not it. -/
theorem State.forcedIn_cons (s : State) (h : Port × Stream) (l : List (Port × Stream)) :
    s.forcedIn (h :: l) = fun p t => (onlyHead h p t && s.forced p t) || (s.abortContext h).forcedIn l p t := by
  funext p t
  have after : (s.abortContext h).forced p t = (s.forced p t && !onlyHead h p t) := by
    rw [State.forced, (Aborts.abortContext s h).contexts]
    cases ho : onlyHead h p t <;> cases hf : s.forced p t <;> simp_all [State.forced, HeadContext.retire]
  have here : ((p, t) == h) = onlyHead h p t := by
    rw [Bool.eq_iff_iff]
    rw [onlyHead_iff, beq_iff_eq, eq_comm]
  rw [State.forcedIn, State.forcedIn, after, List.contains_cons, here]
  cases onlyHead h p t <;> simp

theorem Aborts.foldl (s : State) (l : List (Port × Stream)) :
    Aborts s (l.foldl State.abortContext s) (s.forcedIn l) := by
  induction l generalizing s with
  | nil => exact .of_reported (.refl s)
  | cons h l ih =>
    rw [State.forcedIn_cons]
    exact (Aborts.abortContext s h).trans (ih _)

/-- R140: the abort of all RETIRING contexts. -/
theorem State.abortRetiring_aborts (s : State) : Aborts s s.abortRetiring s.forced := by
  have all : s.forcedIn allHeads = s.forced := by
    funext p t
    simp [State.forcedIn, mem_allHeads]
  rw [← all]
  exact .foldl s allHeads

/-- R145, R147: when all RETIRING contexts are aborted, every unit of theirs ends in the aborted count. -/
theorem Aborts.aborted {s u : State} (h : Aborts s u s.forced) (hle : s.retire.aborted ≤ 255) :
    u.retire.aborted = min 255 (s.retire.aborted + s.owed) := by
  obtain ⟨k, howed, haborted⟩ := h.counts
  have none_forced (p : Port) (t : Stream) : u.forced p t = false := by
    rw [State.forced, h.contexts]
    cases hf : s.forced p t <;> simp_all [State.forced, HeadContext.retire]
  rw [State.owed_of_none none_forced, Nat.zero_add] at howed
  rw [haborted, countOne_iterate hle, howed]

end Sys2Proof.Machine

/-! PROOFS. The abort of every RETIRING context where RETIRED is not in class 2 (R69, R79, R118, R140): the ports and the
faults. -/

namespace Sys2Proof.Machine

/-- What the abort of the contexts named by `f` leaves of each port but for its builder, and the claims that it makes. -/
structure AbortsQuietly (s u : State) (f : Port → Stream → Bool) (cs : List Claim) : Prop where
  port : ∀ p, u.port p =
    { (s.port p).cutItems (f p) with
      builder := (u.port p).builder
      reportFlags := if (s.port p).builder.cuts (f p) then (s.port p).reportFlags ||| 0x1000
        else (s.port p).reportFlags }
  signals : u.signals = s.claimed cs

theorem AbortsQuietly.refl (s : State) : AbortsQuietly s s (fun _ _ => false) [] where
  port p := by rw [PortState.cutItems_none, Builder.cuts_none]; rfl
  signals := rfl

theorem AbortsQuietly.trans {s u v : State} {f g : Port → Stream → Bool} {cs ds : List Claim}
    (hu : Aborts s u f) (h : AbortsQuietly s u f cs) (h' : AbortsQuietly u v g ds) :
    AbortsQuietly s v (fun p t => f p t || g p t) (cs ++ ds) where
  port p := by
    obtain ⟨k, hk⟩ := hu.builder p
    have flags : (if (u.port p).builder.cuts (g p) then (u.port p).reportFlags ||| 0x1000 else (u.port p).reportFlags) =
        if (s.port p).builder.cuts fun t => f p t || g p t then (s.port p).reportFlags ||| 0x1000
        else (s.port p).reportFlags := by
      have before : (u.port p).reportFlags = _ := congrArg PortState.reportFlags (h.port p)
      rw [before, hk, Builder.cutShort_cuts, ← Builder.cuts_or]
      cases (s.port p).builder.cuts (f p) <;>
        cases (s.port p).builder.cuts (fun t => g p t && !f p t) <;> simp [BitVec.or_assoc]
    have items : (u.port p).cutItems (g p) =
        { (s.port p).cutItems fun t => f p t || g p t with
          builder := (u.port p).builder
          reportFlags := (u.port p).reportFlags } := by
      rw [← PortState.cutItems_cutItems]
      have before : (u.port p) = { (s.port p).cutItems (f p) with
        builder := (u.port p).builder
        reportFlags := (u.port p).reportFlags } := by
        refine (h.port p).trans ?_
        rw [congrArg PortState.reportFlags (h.port p)]
      exact congrArg (fun x : PortState => x.cutItems (g p)) before
    rw [h'.port, flags, items]
  signals := by
    rw [h'.signals, State.claimed_append]
    exact State.claimed_congr h.signals ds

/-- The RETURN being sent for a stream and not cut short. -/
def Builder.live (b : Builder) (t : Stream) : Option CurrentReturn :=
  b.current.filter fun r => r.stream == t && !r.zeroFilled

theorem State.liveReturn_eq (s : State) (p : Port) (t : Stream) : s.liveReturn p t = (s.port p).builder.live t := by
  unfold State.liveReturn Builder.live
  cases (s.port p).builder.current with
  | none => rfl
  | some r => simp [Option.filter]

theorem Builder.cutShort_live {f : Stream → Bool} {t : Stream} (hf : f t = false) (b : Builder) (k : Nat) :
    (b.cutShort f k).live t = b.live t := by
  obtain ⟨phase, current, packetSent, snapshot⟩ := b
  cases current with
  | none => rfl
  | some r =>
    by_cases hr : r.stream = t
    · subst hr
      simp [Builder.cutShort, hf]
    · have stream : (if f r.stream && !r.zeroFilled then r.zeroFill k else r).stream = r.stream := by split <;> rfl
      have none_live (r' : CurrentReturn) (h : r'.stream = r.stream) :
          (some r').filter (fun r => r.stream == t && !r.zeroFilled) = none := by
        simp [Option.filter, h, hr]
      exact (none_live _ stream).trans (none_live r rfl).symm

/-- R118, R140: the claim of the RETURN cut short for a head context. -/
def State.cutClaims (s : State) (h : Port × Stream) : List Claim :=
  if s.forced h.1 h.2 then
    ((s.liveReturn h.1 h.2).map fun r => s.contextClaim .retired h.1 h.2 r.header).toList
  else []

theorem AbortsQuietly.cutContext (s : State) (p : Port) (t : Stream) (cut : Bool)
    (hcut : (s.port p).builder.cuts (· == t) = cut) :
    ∀ q, ((s.cutContext p t).flagRetired fun q => cut && p == q).port q =
      { (s.port q).cutItems (onlyHead (p, t) q) with
        builder := (((s.cutContext p t).flagRetired fun q => cut && p == q).port q).builder
        reportFlags := if (s.port q).builder.cuts (onlyHead (p, t) q) then (s.port q).reportFlags ||| 0x1000
          else (s.port q).reportFlags } := by
  intro q
  rw [State.flagRetired_port, State.cutContext_port]
  by_cases h : p = q
  · subst h
    rw [if_pos rfl, onlyHead_self, hcut]
    cases cut <;> simp [PortState.cutItems]
  · rw [if_neg h, onlyHead_ne (h := (p, t)) h, PortState.cutItems_none, Builder.cuts_none]
    simp [h]

theorem AbortsQuietly.abortContext {s : State} (hs : s.faults.classMap.get 12 ≠ .class2) (h : Port × Stream) :
    AbortsQuietly s (s.abortContext h) (fun p t => onlyHead h p t && s.forced p t) (s.cutClaims h) := by
  obtain ⟨p, t⟩ := h
  cases hf : s.forced p t with
  | false =>
    rw [onlyHead_and_of_false hf, State.abortContext, if_neg fun hr => by simp [State.forced, hr] at hf,
      State.cutClaims, hf]
    exact .refl s
  | true =>
    rw [onlyHead_and_of_true hf, State.cutClaims, hf]
    cases hr : s.liveReturn p t with
    | none =>
      rw [State.abortContext_of_none (State.forced_iff.mp hf) hr]
      have ports := AbortsQuietly.cutContext s p t false (State.liveReturn_eq_none.mp hr)
      simp only [Bool.false_and, State.flagRetired_none] at ports
      exact ⟨ports, rfl⟩
    | some r =>
      have hclass : (s.cutContext p t).faults.classMap.get 12 ≠ .class2 := hs
      rw [State.abortContext_of_some (State.forced_iff.mp hf) hr, State.raise_retired hclass rfl]
      have cuts : (s.port p).builder.cuts (· == t) = true := by
        rw [← Bool.not_eq_false, ← State.liveReturn_eq_none, hr]
        exact nofun
      have source : (fun q => (s.contextClaim .retired p t r.header).source == .port q) = fun q => p == q := by
        funext q
        simp [State.contextClaim]
      have ports := AbortsQuietly.cutContext s p t true cuts
      simp only [Bool.true_and] at ports
      rw [source]
      exact ⟨ports, State.takeClaim_congr (s := s) (t := s.cutContext p t) rfl (s.contextClaim .retired p t r.header)⟩

theorem State.abortContext_classMap {s : State} (hs : s.faults.classMap.get 12 ≠ .class2) (h : Port × Stream) :
    (s.abortContext h).faults.classMap.get 12 ≠ .class2 := by
  have map (cs : List Claim) (u : State) : (u.claimed cs).1.classMap = u.faults.classMap := by
    induction cs generalizing u with
    | nil => rfl
    | cons c cs ih => rw [State.claimed_cons, ih, State.takeClaim_classMap]
  have faults : (s.abortContext h).faults = (s.claimed (s.cutClaims h)).1 :=
    congrArg Prod.fst (AbortsQuietly.abortContext hs h).signals
  rwa [faults, map]

/-- The abort of one context leaves the RETURN of another, and the claim for it. -/
theorem State.abortContext_cutClaims {h h' : Port × Stream} (hne : h ≠ h') (s : State) :
    (s.abortContext h).cutClaims h' = s.cutClaims h' := by
  obtain ⟨p, t⟩ := h'
  have aborts := Aborts.abortContext s h
  have other : (onlyHead h p t && s.forced p t) = false := by
    have : onlyHead h p t = false := by
      rw [← Bool.not_eq_true, onlyHead_iff]
      exact hne
    rw [this, Bool.false_and]
  have context : (s.abortContext h).context p t = s.context p t := by
    rw [aborts.contexts, other]
    rfl
  obtain ⟨k, builder⟩ := aborts.builder p
  have live : (s.abortContext h).liveReturn p t = s.liveReturn p t := by
    rw [State.liveReturn_eq, State.liveReturn_eq, builder, Builder.cutShort_live other]
  have forced : (s.abortContext h).forced p t = s.forced p t := by rw [State.forced, context, State.forced]
  have claim (d : HeaderBits) : (s.abortContext h).contextClaim .retired p t d = s.contextClaim .retired p t d := by
    rw [State.contextClaim, context, State.contextClaim]
  simp only [State.cutClaims, forced, live, claim]

theorem AbortsQuietly.foldl {s : State} (hs : s.faults.classMap.get 12 ≠ .class2) {l : List (Port × Stream)}
    (hl : l.Nodup) : AbortsQuietly s (l.foldl State.abortContext s) (s.forcedIn l) (l.flatMap s.cutClaims) := by
  induction l generalizing s with
  | nil => exact .refl s
  | cons h l ih =>
    obtain ⟨hnot, hl⟩ := List.nodup_cons.mp hl
    have rest : l.flatMap s.cutClaims = l.flatMap (s.abortContext h).cutClaims :=
      List.flatMap_congr fun h' hh' => (s.abortContext_cutClaims (fun e => hnot (by rwa [e]))).symm
    rw [State.forcedIn_cons, List.flatMap_cons, rest]
    exact .trans (.abortContext s h) (.abortContext hs h) (ih (s.abortContext_classMap hs h) hl)

/-- R118, R140: the claim of the RETURN of a port that an abort of the contexts named by `f` cuts short. -/
def State.portCutClaims (s : State) (f : Port → Stream → Bool) (p : Port) : List Claim :=
  match (s.port p).builder.current with
  | some r => if f p r.stream && !r.zeroFilled then [s.contextClaim .retired p r.stream r.header] else []
  | none => []

/-- Those of all ports. -/
def State.cutReturnClaims (s : State) (f : Port → Stream → Bool) : List Claim := allPorts.flatMap (s.portCutClaims f)

theorem State.allHeads_cutClaims (s : State) : allHeads.flatMap s.cutClaims = s.cutReturnClaims s.forced := by
  have heads : allHeads = allPorts.flatMap fun p => ([0, 1, 2, 3] : List Stream).map fun t => (p, t) := rfl
  rw [heads, List.flatMap_assoc, State.cutReturnClaims]
  refine congrArg (fun f => allPorts.flatMap f) (funext fun p => ?_)
  have streams : ∀ t : Stream, t = 0 ∨ t = 1 ∨ t = 2 ∨ t = 3 := by decide
  simp only [List.map_cons, List.map_nil, List.flatMap_cons, List.flatMap_nil, State.cutClaims, State.liveReturn_eq,
    Builder.live, State.portCutClaims]
  cases (s.port p).builder.current with
  | none => simp
  | some r =>
    cases hz : r.zeroFilled with
    | true => simp [Option.filter, hz]
    | false => obtain h | h | h | h := streams r.stream <;> simp [Option.filter, h, hz]

/-- R140: the abort of all RETIRING contexts where RETIRED is not in class 2. -/
theorem State.abortRetiring_quietly {s : State} (hs : s.faults.classMap.get 12 ≠ .class2) :
    AbortsQuietly s s.abortRetiring s.forced (s.cutReturnClaims s.forced) := by
  have all : s.forcedIn allHeads = s.forced := by
    funext p t
    simp [State.forcedIn, mem_allHeads]
  rw [← State.allHeads_cutClaims, ← all]
  exact .foldl hs allHeads_nodup

end Sys2Proof.Machine

/-! PROOFS. The expiry of the drain timer (R118, R140, R145, R147). -/

namespace Sys2Proof.Machine

/-! ### The units to count, context by context -/

/-- R26, R145: the in-flight units of a stream of a port that no command has counted. -/
def PortState.unitsOf (x : PortState) (t : Stream) : Nat :=
  (x.queue.filter fun i => i.stream == t && !i.isCounted).length +
    match x.builder.current with
    | some r => if r.stream = t ∧ r.zeroFilled = false then 1 else 0
    | none => 0

theorem PortState.owed_stream (x : PortState) (t : Stream) : x.owed (· == t) = x.unitsOf t := by
  unfold PortState.owed PortState.unitsOf Builder.cuts
  rw [List.countP_eq_length_filter]
  cases x.builder.current with
  | none => rfl
  | some r => simp

/-- The units of several streams are those of each. -/
theorem PortState.owed_eq_sum (x : PortState) (f : Stream → Bool) :
    x.owed f = (([0, 1, 2, 3] : List Stream).map fun t => if f t then x.unitsOf t else 0).sum := by
  have one (g : Stream → Bool) (t : Stream) :
      x.owed g = (x.owed fun u => g u && !(u == t)) + if g t then x.unitsOf t else 0 := by
    cases hg : g t with
    | true => rw [PortState.owed_split x g hg, PortState.owed_stream]; rfl
    | false =>
      have same : (fun u => g u && !(u == t)) = g := by
        funext u
        by_cases h : u = t
        · subst h; simp [hg]
        · simp [h]
      rw [same]
      rfl
  have streams : (fun u : Stream => (((f u && !(u == 0)) && !(u == 1)) && !(u == 2)) && !(u == 3)) = fun _ => false := by
    have every : ∀ u : Stream, u = 0 ∨ u = 1 ∨ u = 2 ∨ u = 3 := by decide
    funext u
    obtain rfl | rfl | rfl | rfl := every u <;> simp
  rw [one f 0, one _ 1, one _ 2, one _ 3, streams, PortState.owed_none]
  simp
  omega

theorem sum_owed (s : State) (f : Port → Stream → Bool) :
    (allPorts.map fun p => (s.port p).owed (f p)).sum =
      ((allHeads.filter fun h => f h.1 h.2).map fun h => (s.port h.1).unitsOf h.2).sum := by
  have chosen (l : List (Port × Stream)) : ((l.filter fun h => f h.1 h.2).map fun h => (s.port h.1).unitsOf h.2).sum =
      (l.map fun h => if f h.1 h.2 then (s.port h.1).unitsOf h.2 else 0).sum := by
    induction l with
    | nil => rfl
    | cons h l ih => cases hf : f h.1 h.2 <;> simp [hf, ih]
  rw [chosen]
  simp only [PortState.owed_eq_sum, allPorts, allHeads, List.map_cons, List.map_nil, List.sum_cons, List.sum_nil]
  omega

/-! ### A RETURN cut short -/

/-- R118, log entry 6: the cells of a RETURN cut short that keep their values are the first of those read. -/
theorem CurrentReturn.zeroFill_eq (r : CurrentReturn) (k : Nat) :
    ∃ m : Nat, m ≤ r.cells.length ∧
      r.zeroFill k =
        { r with cells := r.cells.take m ++ List.replicate (r.length - m) 0, zeroFilled := true } := by
  refine ⟨min k r.cells.length, Nat.min_le_right _ _, ?_⟩
  have kept : (r.cells.take (min k r.cells.length)).length = min k r.cells.length := by
    rw [List.length_take]
    omega
  simp only [CurrentReturn.zeroFill, kept]

theorem Builder.cutShort_of_cut {b : Builder} {r : CurrentReturn} {f : Stream → Bool} (hc : b.current = some r)
    (hr : (f r.stream && !r.zeroFilled) = true) (k : Nat) :
    b.cutShort f k = { b with current := some (r.zeroFill k) } := by
  simp only [Builder.cutShort, hc, Option.map_some, hr, if_true]

theorem Builder.cuts_of_current {b : Builder} {r : CurrentReturn} (hc : b.current = some r) (f : Stream → Bool) :
    b.cuts f = (f r.stream && !r.zeroFilled) := by
  rw [Builder.cuts, hc]
  rfl

/-- R118: with no RETURN to cut short the builder stands. -/
theorem Builder.cutShort_of_no_cut {b : Builder} {f : Stream → Bool}
    (h : ∀ r, b.current = some r → (f r.stream && !r.zeroFilled) = false) (k : Nat) : b.cutShort f k = b := by
  refine Builder.cutShort_of_not_cuts ?_ k
  cases hr : b.current with
  | none => rw [Builder.cuts, hr]; rfl
  | some r => rw [Builder.cuts_of_current hr, h r hr]

/-! ### The expiry -/

theorem exec_drainTimerExpiry_next {s : State} {n : Nat} (hs : Operating s) (hd : s.retire.phase = .draining)
    (ht : s.retire.timer = some n) :
    exec .drainTimerExpiry s = .next (s.abortRetiring.completeRetire .doneForced) := by
  have expired : s.expireDrain = s.abortRetiring.completeRetire .doneForced := by
    simp only [State.expireDrain, hd, ht]
  rw [exec_drainTimerExpiry, operate_next hs.1, expired, State.settleDrain_idle rfl]

/-- Settles O46: the abort of every RETIRING context, read off `Aborts` (any class) and `AbortsQuietly` (not class 2). -/
theorem drainTimerExpiryForcesTheRetirement : Obligations.DrainTimerExpiryForcesTheRetirement := by
  refine ⟨fun s n hs hd ht => ?_, fun s t n hs hd ht hle he => ?_, fun s t n hs hd ht hclass he => ?_⟩
  · refine ⟨_, exec_drainTimerExpiry_next hs hd ht, ?_⟩
    have aborts := s.abortRetiring_aborts
    obtain ⟨-, store, apertures, marks, bindings, -, retire⟩ := aborts.frame
    rw [State.completeRetire_eq]
    generalize s.abortRetiring = u at *
    refine ⟨fun p t => ?_, rfl, rfl, rfl, rfl, rfl, rfl, ?_, ?_, rfl, fun p r hr hz hf => ⟨?_, ?_⟩,
      store, marks, apertures, bindings⟩
    · refine (aborts.contexts p t).trans ?_
      simp only [State.forced_iff, HeadContext.retire]
    · exact (congrArg RetireEngine.retired retire :)
    · exact (congrArg RetireEngine.drained retire :)
    · obtain ⟨k, hk⟩ := aborts.builder p
      obtain ⟨m, hm, filled⟩ := r.zeroFill_eq k
      refine ⟨m, hm, ?_⟩
      show (u.port p).builder.current = _
      rw [hk, Builder.cutShort_of_cut hr (by simp [State.forced_iff.mpr hf, hz]), filled]
    · intro q hq
      have request := aborts.request p
      rw [Builder.cuts_of_current hr, State.forced_iff.mpr hf, hz] at request
      obtain ⟨q', -, hq'⟩ := Option.map_eq_some_iff.mp (request.symm.trans hq)
      rw [← hq', Request.cutOff]
      exact Bool.and_false _
  · obtain rfl := Host.Outcome.next.inj ((exec_drainTimerExpiry_next hs hd ht).symm.trans he)
    intro units
    have counted := s.abortRetiring_aborts.aborted hle
    rw [State.owed, sum_owed s s.forced] at counted
    rw [State.completeRetire_eq]
    generalize s.abortRetiring = u at *
    exact counted
  · obtain rfl := Host.Outcome.next.inj ((exec_drainTimerExpiry_next hs hd ht).symm.trans he)
    intro forced cut claims raised
    have aborts := s.abortRetiring_aborts
    have quietly := State.abortRetiring_quietly hclass
    obtain ⟨-, -, -, -, -, host, -⟩ := aborts.frame
    obtain ⟨faults, interrupts⟩ := Prod.mk.inj quietly.signals
    rw [State.completeRetire_eq]
    generalize s.abortRetiring = u at *
    refine ⟨faults, congrArg (fun i : InterruptUnit => { i with cmdDone := true }) interrupts, host, fun p => ?_⟩
    have port := quietly.port p
    refine ⟨(congrArg PortState.reportFlags port :), (congrArg PortState.returns port :), (congrArg PortState.ackCount port :),
      (congrArg PortState.mode port :), (congrArg PortState.burst port :), (congrArg PortState.queue port :), fun h => ?_,
      aborts.request p⟩
    obtain ⟨k, hk⟩ := aborts.builder p
    exact hk.trans (Builder.cutShort_of_no_cut h k)

end Sys2Proof.Machine

/-! PROOFS. RETIRE in abort mode (R118, R138, R140, R141). -/

namespace Sys2Proof.Machine

/-! ### The take and the abort together -/

section
variable {s : State} (hnone : ∀ (p : Port) (t : Stream), (s.context p t).state ≠ .retiring) (x : Scope)
include hnone

theorem State.taken_forced : (s.taken x).forced = s.affects x := by
  funext p t
  rw [Bool.eq_iff_iff, State.forced_iff, State.taken_retiring hnone]

theorem State.retireTake_forced : (s.retireTake x).forced = s.affects x := by
  rw [State.retireTake_eq, State.forced_of_contexts (Reported.raiseAll _ _).contexts, State.taken_forced hnone]

/-- R138, R140: the abort of what the take made RETIRING, whatever the class of RETIRED. -/
theorem Aborts.retireTake : Aborts (s.taken x) (s.retireTake x).abortRetiring (s.affects x) := by
  have take : Aborts (s.taken x) (s.retireTake x) fun _ _ => false := by
    rw [State.retireTake_eq]
    exact .of_reported (.raiseAll _ _)
  have abort := (s.retireTake x).abortRetiring_aborts
  rw [State.retireTake_forced hnone] at abort
  simpa only [Bool.false_or] using take.trans abort

theorem State.taken_owed :
    (s.taken x).owed = ((allHeads.filter fun h => s.affects x h.1 h.2).map fun h => (s.port h.1).unitsOf h.2).sum := by
  rw [State.owed, sum_owed, State.taken_forced hnone]
  simp only [State.taken_port]
  rfl

end

/-- R26, R85: there are at most 20 in-flight units. -/
theorem State.taken_owed_le {s : State} (hs : QueuesBounded s) (x : Scope) : (s.taken x).owed ≤ 20 := by
  have each (p : Port) : ((s.taken x).port p).owed ((s.taken x).forced p) ≤ 5 := by
    have items := List.countP_le_length (l := ((s.taken x).port p).queue)
      (p := fun i => (s.taken x).forced p i.stream && !i.isCounted)
    have bound : ((s.taken x).port p).queue.length ≤ 4 := by
      rw [State.taken_port]
      exact (hs p).1
    unfold PortState.owed
    split <;> omega
  have h0 := each 0
  have h1 := each 1
  have h2 := each 2
  have h3 := each 3
  simp only [State.owed, allPorts, List.map_cons, List.map_nil, List.sum_cons, List.sum_nil]
  omega

/-! ### The faults of both -/

theorem State.cutReturnClaims_any (s : State) (f : Port → Stream → Bool) (p : Port) :
    ((s.cutReturnClaims f).any fun c => c.source == .port p) = (s.port p).builder.cuts (f p) := by
  have each (q : Port) : ((s.portCutClaims f q).any fun c => c.source == .port p) =
      ((s.port q).builder.cuts (f q) && q == p) := by
    unfold State.portCutClaims Builder.cuts
    cases (s.port q).builder.current with
    | none => rfl
    | some r => cases h : f q r.stream && !r.zeroFilled <;> simp [h, State.contextClaim]
  rw [State.cutReturnClaims, List.any_flatMap, Bool.eq_iff_iff, List.any_eq_true]
  simp only [each, Bool.and_eq_true, beq_iff_eq]
  constructor
  · rintro ⟨q, -, hcuts, rfl⟩
    exact hcuts
  · exact fun hcuts => ⟨p, mem_allPorts p, hcuts, rfl⟩

theorem State.portCutClaims_of_not_cuts {s : State} {f : Port → Stream → Bool} {p : Port}
    (h : (s.port p).builder.cuts (f p) = false) : s.portCutClaims f p = [] := by
  unfold State.portCutClaims
  cases hr : (s.port p).builder.current with
  | none => rfl
  | some r =>
    rw [Builder.cuts_of_current hr] at h
    simp [h]

/-- The claims depend on the RETURNs being sent and on the points of the walks. -/
theorem State.portCutClaims_congr {s u : State} {p : Port} (hb : (u.port p).builder = (s.port p).builder)
    (hw : ∀ t, (u.context p t).walkPoint = (s.context p t).walkPoint) (f : Port → Stream → Bool) :
    u.portCutClaims f p = s.portCutClaims f p := by
  simp only [State.portCutClaims, hb, State.contextClaim, hw]

theorem State.claimed_classMap (s : State) (cs : List Claim) : (s.claimed cs).1.classMap = s.faults.classMap := by
  induction cs generalizing s with
  | nil => rfl
  | cons c cs ih => rw [State.claimed_cons, ih, State.takeClaim_classMap]

theorem State.withSignals_port (s : State) (x : FaultUnit × InterruptUnit) (p : Port) :
    (s.withSignals x).port p = s.port p := rfl

section
variable {s : State} (hs : s.faults.classMap.get 12 ≠ .class2)
  (hnone : ∀ (p : Port) (t : Stream), (s.context p t).state ≠ .retiring) (x : Scope)
include hs

theorem State.retireTake_port (p : Port) :
    (s.retireTake x).port p =
      { s.port p with
        returns := (s.port p).returns.filter fun e => !s.affects x p e.stream
        reportFlags :=
          if (s.port p).returns.any fun e => s.affects x p e.stream then (s.port p).reportFlags ||| 0x1000
          else (s.port p).reportFlags } := by
  rw [State.retireTake_retired hs, State.withSignals_port, State.flagRetired_port, State.taken_port]

theorem State.retireTake_classMap : (s.retireTake x).faults.classMap.get 12 ≠ .class2 := by
  rw [State.retireTake_retired hs]
  show (s.claimed (s.entryClaims x)).1.classMap.get 12 ≠ .class2
  rwa [State.claimed_classMap]

/-- The take moves no cursor: a RETURN cut short raises RETIRED at the point of its walk at the take. -/
theorem State.retireTake_cutReturnClaims : (s.retireTake x).cutReturnClaims (s.affects x) = s.cutReturnClaims (s.affects x) := by
  have context (p : Port) (t : Stream) : ((s.retireTake x).context p t).walkPoint = (s.context p t).walkPoint := by
    rw [State.retireTake_eq, State.context, (Reported.raiseAll _ _).contexts]
    show ((s.taken x).context p t).walkPoint = _
    rw [State.taken_context]
    split <;> rfl
  refine congrArg (fun f => allPorts.flatMap f) (funext fun p => State.portCutClaims_congr ?_ (context p) _)
  rw [State.retireTake_port hs]

include hnone

/-- R118, R138, R140: the take and the abort where RETIRED is not in class 2. -/
theorem State.retireAbort_quietly :
    (s.retireTake x).abortRetiring.signals = s.claimed (s.entryClaims x ++ s.cutReturnClaims (s.affects x)) ∧
      ∀ p, (s.retireTake x).abortRetiring.port p =
        { (s.port p).cutItems (s.affects x p) with
          returns := (s.port p).returns.filter fun e => !s.affects x p e.stream
          builder := ((s.retireTake x).abortRetiring.port p).builder
          reportFlags :=
            if (s.entryClaims x ++ s.cutReturnClaims (s.affects x)).any fun c => c.source == .port p then
              (s.port p).reportFlags ||| 0x1000
            else (s.port p).reportFlags } := by
  have quietly := State.abortRetiring_quietly (State.retireTake_classMap hs x)
  rw [State.retireTake_forced hnone] at quietly
  have claims := State.retireTake_cutReturnClaims hs x
  have taken : (s.retireTake x).signals = s.claimed (s.entryClaims x) := by rw [State.retireTake_retired hs]; rfl
  refine ⟨?_, fun p => ?_⟩
  · rw [quietly.signals, claims, State.claimed_append]
    exact State.claimed_congr taken _
  · have any := (s.retireTake x).cutReturnClaims_any (s.affects x) p
    rw [claims] at any
    rw [quietly.port p, List.any_append, State.entryClaims_any, any,
      State.retireTake_port hs]
    cases (s.port p).returns.any fun e => s.affects x p e.stream <;>
      cases (s.port p).builder.cuts (s.affects x p) <;> simp [PortState.cutItems, BitVec.or_assoc]

end

/-! ### The command -/

theorem exec_retireAbort_next {s : State} {x : Scope} (hs : CommandReady s) (hx : retireScope s.command.args = .ok x)
    (hd : argDrain s.command.args = false) (ha : s.affectedSet x ≠ []) :
    exec .retireAbort s =
      .next ((((s.takeCommand 0x0031).retireTake x).abortRetiring).completeRetire .done) := by
  rw [exec_retireAbort, busCommand_retire hs, State.retireCommand_abort hx ha hd, State.settleDrain_idle rfl]

theorem exec_retireAbort_none {s : State} {x : Scope} (hs : CommandReady s) (hx : retireScope s.command.args = .ok x)
    (ha : s.affectedSet x = []) : exec .retireAbort s = .next (s.answered 0x0031 .done) := by
  rw [exec_retireAbort, busCommand_retire hs, State.retireCommand_none hx ha, State.answered_settled hs.1.1.2]

/-- R140: an affected context after the take and the abort. -/
theorem State.retireAbort_context {s : State} (hnone : ∀ (p : Port) (t : Stream), (s.context p t).state ≠ .retiring)
    (x : Scope) (p : Port) (t : Stream) :
    (s.retireTake x).abortRetiring.context p t = if s.affects x p t then (s.context p t).retire else s.context p t := by
  rw [(Aborts.retireTake hnone x).contexts, State.taken_context]
  cases s.affects x p t <;> rfl

/-- R133, R141, R145: the engine's counts at the end of a RETIRE in abort mode. -/
theorem State.retireAbort_counts {s : State} (hnone : ∀ (p : Port) (t : Stream), (s.context p t).state ≠ .retiring)
    (hs : QueuesBounded s) (x : Scope) :
    (s.retireTake x).abortRetiring.retire.retired =
        (allHeads.filter fun h => s.affects x h.1 h.2).length + (if s.hostAffected x then 1 else 0) ∧
      (s.retireTake x).abortRetiring.retire.drained = 0 ∧
      (s.retireTake x).abortRetiring.retire.aborted =
        ((allHeads.filter fun h => s.affects x h.1 h.2).map fun h => (s.port h.1).unitsOf h.2).sum ∧
      (s.retireTake x).abortRetiring.retire.retired < 256 ∧ (s.retireTake x).abortRetiring.retire.aborted < 256 := by
  have aborts := Aborts.retireTake hnone x
  obtain ⟨-, -, -, -, -, -, retire⟩ := aborts.frame
  have retired : (s.retireTake x).abortRetiring.retire.retired = (s.affectedSet x).length :=
    (congrArg RetireEngine.retired retire :)
  have drained : (s.retireTake x).abortRetiring.retire.drained = 0 := (congrArg RetireEngine.drained retire :)
  rw [← State.taken_forced hnone] at aborts
  have aborted := aborts.aborted (Nat.zero_le 255)
  have zero : (s.taken x).retire.aborted = 0 := rfl
  have bound := State.taken_owed_le hs x
  have heads : (allHeads.filter fun h => s.affects x h.1 h.2).length ≤ 16 := List.length_filter_le _ allHeads
  rw [zero] at aborted
  rw [retired, drained, State.affectedSet_length, ← State.taken_owed hnone]
  refine ⟨rfl, rfl, by omega, ?_, by omega⟩
  split <;> omega

end Sys2Proof.Machine

/-! PROOFS. RETIRE in abort mode: its statement. -/

namespace Sys2Proof.Machine

theorem State.affectedSet_eq_nil {s : State} {x : Scope} :
    s.affectedSet x = [] ↔ (allHeads.filter fun h => s.affects x h.1 h.2) = [] ∧ s.hostAffected x = false := by
  rw [← List.length_eq_zero_iff, State.affectedSet_length, Nat.add_eq_zero_iff, List.length_eq_zero_iff]
  cases s.hostAffected x <;> simp

theorem Scope.coversHead_aperture (n : ApIndex) (p : Port) (t : Stream) (copy : Option Copy) :
    (Scope.aperture n).coversHead p t copy = copy.any fun k => k.aperture == n := by
  cases copy <;> rfl

theorem Scope.coversHost_aperture (n : ApIndex) (copy : Option Copy) :
    (Scope.aperture n).coversHost copy = copy.any fun k => k.aperture == n := by
  cases copy <;> rfl

/-- Settles O43: the take and the abort, read off `Aborts` (any class) and `retireAbort_quietly` (not class 2). -/
theorem retireAbortResult : Obligations.RetireAbortResult := by
  refine ⟨fun s x hs _ hnone hbounds hx hd => ?_, fun s t x hs _ hnone hx hd hclass he => ?_⟩
  · intro covered hostCovered heads units hne
    have hcov : covered = s.affects x := by
      funext p t
      refine congrArg (fun b => ((s.context p t).state == .opened || (s.context p t).state == .ended) && b) ?_
      cases x with
      | aperture n => exact (Scope.coversHead_aperture n p t _).symm
      | all | port | binding => rfl
    have hhostCov : hostCovered = s.hostAffected x := by
      rw [State.hostAffected, Bool.and_comm]
      refine congrArg (fun b => (s.hostContext.state == .opened || s.hostContext.state == .ended) && b) ?_
      cases x with
      | aperture n => exact (Scope.coversHost_aperture n _).symm
      | all | port | binding => rfl
    clear_value covered hostCovered
    subst hcov hhostCov
    have ha : s.affectedSet x ≠ [] := fun h => by
      obtain ⟨noHead, noHost⟩ := State.affectedSet_eq_nil.mp h
      obtain hheads | hhost := hne
      · exact hheads noHead
      · rw [noHost] at hhost
        cases hhost
    refine ⟨_, exec_retireAbort_next hs hx hd ha, ?_⟩
    obtain ⟨retired, drained, aborted, retired_lt, aborted_lt⟩ :=
      State.retireAbort_counts (s := s.takeCommand 0x0031) hnone hbounds x
    have context := State.retireAbort_context (s := s.takeCommand 0x0031) hnone x
    obtain ⟨command, store, apertures, marks, bindings, host, -⟩ :=
      (Aborts.retireTake (s := s.takeCommand 0x0031) hnone x).frame
    rw [State.completeRetire_eq]
    generalize ((s.takeCommand 0x0031).retireTake x).abortRetiring = u at *
    refine ⟨context, host, rfl, rfl, (congrArg CommandUnit.lastOpcode command :), (congrArg CommandUnit.args command :),
      ?_, ?_, ?_, rfl, rfl, rfl, rfl, store, apertures, marks, bindings⟩
    · simp only [Bank.get_tabulate, if_true, BitVec.toNat_ofNat]
      rw [Nat.mod_eq_of_lt retired_lt]
      exact retired
    · simp [drained]
    · have two : (2 : Fin 3) ≠ 0 ∧ (2 : Fin 3) ≠ 1 := by decide
      simp only [Bank.get_tabulate, two, if_false, BitVec.toNat_ofNat]
      rw [Nat.mod_eq_of_lt aborted_lt]
      exact aborted
  · intro covered cut claim claims raised
    have hcov : covered = s.affects x := rfl
    clear_value covered
    subst hcov
    by_cases ha : s.affectedSet x = []
    · obtain ⟨noHead, -⟩ := State.affectedSet_eq_nil.mp ha
      obtain rfl := Host.Outcome.next.inj ((exec_retireAbort_none hs hx ha).symm.trans he)
      have unaffected (p : Port) (t : Stream) : s.affects x p t = false := by
        have := List.filter_eq_nil_iff.mp noHead (p, t) (mem_allHeads p t)
        simpa using this
      have none_affected (p : Port) : s.affects x p = fun _ => false := funext (unaffected p)
      have uncut (p : Port) (r : CurrentReturn) : cut p r = false := by
        show (s.affects x p r.stream && !r.zeroFilled) = false
        rw [unaffected, Bool.false_and]
      have no_claims : claims = [] := by
        show s.entryClaims x ++ s.cutReturnClaims (s.affects x) = []
        have none_cut (p : Port) : s.portCutClaims (s.affects x) p = [] :=
          State.portCutClaims_of_not_cuts (by rw [none_affected, Builder.cuts_none])
        simp [State.entryClaims, State.cutReturnClaims, none_cut, unaffected]
      have unraised : raised = s := congrArg (fun cs => cs.foldl State.takeClaim s) no_claims
      rw [unraised, no_claims]
      refine ⟨rfl, rfl, fun p => ?_⟩
      have items : s.port p = (s.port p).cutItems (s.affects x p) := by
        rw [none_affected, PortState.cutItems_none]
      have request : s.request p =
          (s.request p).map fun q => q.cutOff (s.affects x p) ((s.port p).builder.cuts (s.affects x p)) := by
        rw [none_affected, Builder.cuts_none]
        simp only [Request.cutOff_none, Option.map_id']
      refine ⟨rfl, ?_, rfl, rfl, (congrArg PortState.burst items :), (congrArg PortState.queue items :), fun _ => rfl,
        fun r _ hcut => ?_, request⟩
      · simp only [unaffected, Bool.not_false, List.filter_true]
        rfl
      · rw [uncut] at hcut
        cases hcut
    · obtain rfl := Host.Outcome.next.inj ((exec_retireAbort_next hs hx hd ha).symm.trans he)
      obtain ⟨signals, port⟩ := State.retireAbort_quietly (s := s.takeCommand 0x0031) hclass hnone x
      have aborts := Aborts.retireTake (s := s.takeCommand 0x0031) hnone x
      have claimed : ((s.takeCommand 0x0031).retireTake x).abortRetiring.signals = raised.signals :=
        signals.trans (State.claimed_congr (s := s) (t := s.takeCommand 0x0031) rfl claims)
      obtain ⟨faults, interrupts⟩ := Prod.mk.inj claimed
      rw [State.completeRetire_eq]
      generalize ((s.takeCommand 0x0031).retireTake x).abortRetiring = u at *
      refine ⟨faults, congrArg (fun i : InterruptUnit => { i with cmdDone := true }) interrupts, fun p => ?_⟩
      have here := port p
      obtain ⟨k, hk⟩ := aborts.builder p
      have before : ((s.takeCommand 0x0031).taken x).port p = _ := State.taken_port _ x p
      rw [before] at hk
      refine ⟨(congrArg PortState.reportFlags here :), (congrArg PortState.returns here :),
        (congrArg PortState.ackCount here :), (congrArg PortState.mode here :), (congrArg PortState.burst here :),
        (congrArg PortState.queue here :), fun h => ?_, fun r hr hcut => ?_, ?_⟩
      · exact hk.trans (Builder.cutShort_of_no_cut h k)
      · obtain ⟨m, hm, filled⟩ := r.zeroFill_eq k
        refine ⟨m, hm, hk.trans ?_⟩
        rw [← filled]
        exact Builder.cutShort_of_cut hr hcut k
      · have request := aborts.request p
        rw [before] at request
        exact request

end Sys2Proof.Machine

/-! PROOFS. The ports: what the operations that raise faults and end units leave of them, and that every step keeps each
of them (R44, R61, R67, R73, R75, R81, R85, R103, R106, R108). -/

namespace Sys2Proof.Machine

/-! ### Operations that change no port -/

theorem State.port_of_ports {s t : State} (h : t.ports = s.ports) (p : Port) : t.port p = s.port p :=
  congrArg (fun b : Bank 4 PortState => b.get p) h

theorem State.takeClaim_ports (s : State) (c : Claim) : (s.takeClaim c).ports = s.ports := by
  rw [State.takeClaim_eq]
  rfl

theorem State.unitEnded_ports (s : State) (p : Port) (t : Stream) (how : UnitEnd) :
    (s.unitEnded p t how).ports = s.ports := by
  unfold State.unitEnded
  split <;> rfl

theorem State.unitsEnded_ports (s : State) (p : Port) (items : List WorkItem) (how : UnitEnd) :
    (s.unitsEnded p items how).ports = s.ports := by
  unfold State.unitsEnded
  induction items generalizing s with
  | nil => rfl
  | cons i items ih => rw [List.foldl_cons, ih, State.unitEnded_ports]

theorem State.advanceFor_ports (s : State) (p : Port) (r : Request) : (s.advanceFor p r).ports = s.ports := by
  obtain h | ⟨t, -, h⟩ := s.advanceFor_cases p r <;> rw [h]
  rfl

theorem State.markFor_ports (s : State) (r : Request) : (s.markFor r).ports = s.ports := by
  rw [State.markFor_eq]

theorem State.continueReturn_ports (s : State) (p : Port) : (s.continueReturn p).ports = s.ports := by
  unfold State.continueReturn
  (repeat' split) <;> rfl

theorem State.postHost_ports (s : State) (access : Access) (wanted : Bool) :
    (s.postHost access wanted).ports = s.ports := by
  unfold State.postHost
  split <;> rfl

theorem State.advanceHost_ports (s : State) : s.advanceHost.ports = s.ports := by
  unfold State.advanceHost
  split <;> rfl

/-- The reads and writes of the host leave every port as it was. -/
theorem State.performHostAccess_ports (s : State) (r : Request) : (s.performHostAccess r).ports = s.ports := by
  unfold State.performHostAccess
  split
  · rw [State.advanceHost_ports, State.markFor_ports]
    rfl
  · split <;> rw [State.advanceHost_ports] <;> rfl

/-! ### What raising a fault leaves of a port -/

/-- The part of a port that no fault changes: a suspension takes the RECEIVING item and the return queue, turns the
decoder to SKIP inside its burst, and sets mode and report flags (R74, R79). -/
structure Wiring where
  enabled : Bool
  link : LinkState
  isOpen : Bool
  rxTimer : Option Nat
  expectation : Option (BitVec 3)
  returnLimit : Nat
  builder : Builder
  ackCount : Nat
  responseCounter : BitVec 3

/-- That part of a port. -/
def PortState.wiring (x : PortState) : Wiring :=
  ⟨x.enabled, x.link, x.burst.isSome, x.rxTimer, x.expectation, x.returnLimit, x.builder, x.ackCount, x.responseCounter⟩

/-- That part of every port. -/
def State.wiring (s : State) (p : Port) : Wiring := (s.port p).wiring

theorem State.wiring_of_ports {s t : State} (h : t.ports = s.ports) : t.wiring = s.wiring :=
  funext fun p => congrArg PortState.wiring (State.port_of_ports h p)

@[simp] theorem State.setPort_wiring {s : State} {p : Port} {x : PortState} (h : x.wiring = (s.port p).wiring) :
    (s.setPort p x).wiring = s.wiring := by
  funext q
  rw [State.wiring, State.setPort_port]
  split
  · next hq => rw [h, hq]; rfl
  · rfl

@[simp] theorem State.setReportFlag_wiring (s : State) (p : Port) (k : FaultKind) :
    (s.setReportFlag p k).wiring = s.wiring := State.setPort_wiring rfl
@[simp] theorem State.takeClaim_wiring (s : State) (c : Claim) : (s.takeClaim c).wiring = s.wiring :=
  State.wiring_of_ports (s.takeClaim_ports c)
@[simp] theorem State.flagClaim_wiring (s : State) (c : Claim) : (s.flagClaim c).wiring = s.wiring := by
  unfold State.flagClaim
  split <;> simp
@[simp] theorem State.skipReceiving_wiring (s : State) (p : Port) : (s.skipReceiving p).wiring = s.wiring := by
  unfold State.skipReceiving
  split
  · exact State.setPort_wiring (by simp [PortState.wiring])
  · rfl
@[simp] theorem State.removeReceiving_wiring (s : State) (p : Port) (how : UnitEnd) :
    (s.removeReceiving p how).wiring = s.wiring := by
  have ended := s.unitsEnded_ports p ((s.port p).queue.filter fun i => i.isReceiving) how
  have hport := State.port_of_ports ended p
  exact (State.setPort_wiring (by rw [hport]; rfl)).trans (State.wiring_of_ports ended)
@[simp] theorem State.enterSuspended_wiring (s : State) (p : Port) : (s.enterSuspended p).wiring = s.wiring := by
  have dropped : (s.dropReceiving p).wiring = s.wiring := by simp [State.dropReceiving]
  rw [← dropped]
  exact State.setPort_wiring rfl
@[simp] theorem State.classTwoAction_wiring (s : State) (c : Claim) : (s.classTwoAction c).wiring = s.wiring := by
  have latched (u : State) (p : Port) : (u.setSuspendLatch p).wiring = u.wiring := rfl
  unfold State.classTwoAction State.raiseSuspended
  (repeat' split) <;> simp [latched]

/-- A fault leaves the wiring of every port. -/
@[simp] theorem State.raise_wiring (s : State) (c : Claim) : (s.raise c).wiring = s.wiring := by
  simp [State.raise]
@[simp] theorem State.raiseAll_wiring (s : State) (cs : List Claim) : (s.raiseAll cs).wiring = s.wiring := by
  unfold State.raiseAll
  induction cs generalizing s with
  | nil => rfl
  | cons c cs ih => rw [List.foldl_cons, ih, State.raise_wiring]

section
variable {s t : State} (h : t.wiring = s.wiring) (p : Port)
include h

theorem State.link_of_wiring : (t.port p).link = (s.port p).link := congrArg Wiring.link (congrFun h p)
theorem State.builder_of_wiring : (t.port p).builder = (s.port p).builder := congrArg Wiring.builder (congrFun h p)
theorem State.responseCounter_of_wiring : (t.port p).responseCounter = (s.port p).responseCounter :=
  congrArg Wiring.responseCounter (congrFun h p)
theorem State.burst_of_wiring : (t.port p).burst.isSome = (s.port p).burst.isSome :=
  congrArg Wiring.isOpen (congrFun h p)

end

/-! ### The kinds of the items of a work queue -/

theorem WorkItem.cutOff_kind {i j : WorkItem} {counts : Bool} (h : i.cutOff counts = some j) : j.kind = i.kind := by
  unfold WorkItem.cutOff at h
  split at h
  · cases h
  · cases h
  · split at h <;> cases h
    rfl

/-- R69: what a removal leaves of a queue is fewer items of the same kinds. -/
theorem filterMap_kinds_sublist (queue : List WorkItem) {f : WorkItem → Option WorkItem}
    (hf : ∀ i j : WorkItem, f i = some j → j.kind = i.kind) :
    ((queue.filterMap f).map fun i => i.kind).Sublist (queue.map fun i => i.kind) := by
  induction queue with
  | nil => exact .slnil
  | cons i queue ih =>
    cases h : f i with
    | none => simpa [h] using ih.cons _
    | some j => simpa [h, hf i j h] using ih

/-- An item whose state changes keeps its kind. -/
theorem map_kinds (queue : List WorkItem) {f : WorkItem → WorkItem} (hf : ∀ i, (f i).kind = i.kind) :
    ((queue.map f).map fun i => i.kind).Sublist (queue.map fun i => i.kind) := by
  rw [List.map_map]
  exact (List.map_congr_left fun i _ => hf i) ▸ List.Sublist.refl _

end Sys2Proof.Machine

namespace Sys2Proof

open Sys2Proof.Machine

/-! ### A kept port -/

/-- The bounds and agreements of one port, by name. -/
structure PortSound (x : PortState) : Prop where
  queue_le : x.queue.length ≤ 4
  writes_le : (x.queue.filter fun i => i.kind == .write).length ≤ 2
  returns_le : x.returns.length ≤ 4
  off_iff : x.link = .off ↔ x.enabled = false
  burst_listening : x.burst ≠ none → x.link = .listening
  timer_burst : x.rxTimer ≠ none → x.burst ≠ none
  builder_idle : x.link ≠ .responding → x.builder = ⟨.idle, none, false, none⟩
  responding_queue : x.link = .responding → x.queue = []
  suspended_returns : x.mode = .suspended → x.returns = []
  ack_le : x.ackCount ≤ 65535
  limit_pos : 1 ≤ x.returnLimit
  limit_le : x.returnLimit ≤ 512

theorem portsKept_iff {s : State} : PortsKept s ↔ ∀ p : Port, PortSound (s.port p) := by
  constructor
  · rintro ⟨hqueues, hports⟩ p
    obtain ⟨hq, hw, hr⟩ := hqueues p
    obtain ⟨hoff, hburst, htimer, hidle, hresp, hsusp, hack, hpos, hle⟩ := hports p
    exact ⟨hq, hw, hr, hoff, hburst, htimer, hidle, hresp, hsusp, hack, hpos, hle⟩
  · intro h
    refine ⟨fun p => ⟨(h p).queue_le, (h p).writes_le, (h p).returns_le⟩, fun p => ?_⟩
    obtain ⟨-, -, -, hoff, hburst, htimer, hidle, hresp, hsusp, hack, hpos, hle⟩ := h p
    exact ⟨hoff, hburst, htimer, hidle, hresp, hsusp, hack, hpos, hle⟩

theorem PortsKept.port {s : State} (hs : PortsKept s) (p : Port) : PortSound (s.port p) := portsKept_iff.mp hs p

section
variable {x : PortState} (h : PortSound x)
include h

/-- A port with something in its builder is RESPONDING. -/
theorem PortSound.responding (hb : x.builder ≠ ⟨.idle, none, false, none⟩) : x.link = .responding := by
  by_contra hl
  exact hb (h.builder_idle hl)

theorem PortSound.responding_of_current {r : CurrentReturn} (hc : x.builder.current = some r) : x.link = .responding :=
  h.responding fun e => by simp [e] at hc

theorem PortSound.responding_of_phase (hp : x.builder.phase ≠ .idle) : x.link = .responding :=
  h.responding fun e => hp (by rw [e])

theorem PortSound.not_open (hl : x.link ≠ .listening) : x.burst = none ∧ x.rxTimer = none := by
  have hb : x.burst = none := by
    by_contra hb
    exact hl (h.burst_listening hb)
  refine ⟨hb, ?_⟩
  by_contra ht
  exact h.timer_burst ht hb

/-- A queue that loses items keeps the port, whatever states its items are in. -/
theorem PortSound.withQueue {queue : List WorkItem}
    (hq : (queue.map fun i => i.kind).Sublist (x.queue.map fun i => i.kind)) : PortSound { x with queue := queue } := by
  have writes (l : List WorkItem) :
      (l.filter fun i => i.kind == .write).length = ((l.map fun i => i.kind).filter (· == .write)).length := by
    simp [List.filter_map, Function.comp_def]
  refine { h with queue_le := ?_, writes_le := ?_, responding_queue := fun hl => ?_ }
  · have := hq.length_le
    simp only [List.length_map] at this
    exact this.trans h.queue_le
  · have := (hq.filter (· == .write)).length_le
    rw [← writes, ← writes] at this
    exact this.trans h.writes_le
  · have hnil := h.responding_queue hl
    rw [hnil, List.map_nil, List.sublist_nil, List.map_eq_nil_iff] at hq
    exact hq

theorem PortSound.withReturns {returns : List ReturnEntry} (hr : returns.Sublist x.returns) :
    PortSound { x with returns := returns } :=
  { h with
    returns_le := hr.length_le.trans h.returns_le
    suspended_returns := fun hm => List.sublist_nil.mp (h.suspended_returns hm ▸ hr) }

/-- The decoder moves inside its burst. -/
theorem PortSound.withBurst (f : Burst → Burst) : PortSound { x with burst := x.burst.map f } :=
  { h with
    burst_listening := fun hb => h.burst_listening (by simpa using hb)
    timer_burst := fun ht => by simpa using h.timer_burst ht }

theorem PortSound.dropBurst : PortSound { x with burst := none, rxTimer := none } :=
  { h with burst_listening := nofun, timer_burst := nofun }

theorem PortSound.openBurst (hl : x.link = .listening) (b : Burst) (timer : Option Nat) :
    PortSound { x with burst := some b, rxTimer := timer } :=
  { h with burst_listening := fun _ => hl, timer_burst := nofun }

theorem PortSound.withAck {n : Nat} (hn : n ≤ 65535) : PortSound { x with ackCount := n } := { h with ack_le := hn }

/-- R108: the builder works while the port is RESPONDING. -/
theorem PortSound.withBuilder (hl : x.link = .responding) (b : Builder) : PortSound { x with builder := b } :=
  { h with builder_idle := fun hn => absurd hl hn }

theorem PortSound.not_off {link : LinkState} (hx : x.link ≠ .off) (hl : link ≠ .off) :
    link = .off ↔ x.enabled = false := iff_of_false hl (mt h.off_iff.mpr hx)

/-- R70. -/
theorem PortSound.synchronise (hl : x.link = .waitSync) : PortSound { x with link := .listening } :=
  { h with
    off_iff := h.not_off (by rw [hl]; nofun) nofun
    burst_listening := fun _ => rfl
    builder_idle := fun _ => h.builder_idle (by rw [hl]; nofun)
    responding_queue := nofun }

/-- R47, R73. -/
theorem PortSound.turn (hl : x.link = .listening) (hb : x.burst = none) : PortSound { x with link := .turnWait } :=
  { h with
    off_iff := h.not_off (by rw [hl]; nofun) nofun
    burst_listening := fun hn => absurd hb hn
    builder_idle := fun _ => h.builder_idle (by rw [hl]; nofun)
    responding_queue := nofun }

/-- R73, R108. -/
theorem PortSound.respond (hl : x.link = .turnWait) (hq : x.queue = []) (b : Builder) :
    PortSound { x with link := .responding, builder := b } :=
  { h with
    off_iff := h.not_off (by rw [hl]; nofun) nofun
    burst_listening := fun hn => by simp [h.burst_listening hn] at hl
    builder_idle := fun hn => absurd rfl hn
    responding_queue := fun _ => hq }

/-- R116. -/
theorem PortSound.listenAgain (hl : x.link = .responding) :
    PortSound { x with link := .listening, builder := Builder.idle } :=
  { h with
    off_iff := h.not_off (by rw [hl]; nofun) nofun
    burst_listening := fun _ => rfl
    builder_idle := fun _ => rfl
    responding_queue := nofun }

/-- R68, R71: a port with an IDLE builder leaves its burst, its return queue and RESPONDING. -/
theorem PortSound.leave (hb : x.builder = Builder.idle) {link : LinkState} {enabled : Bool} (hl : link ≠ .responding)
    (he : link = .off ↔ enabled = false) :
    PortSound { x with enabled := enabled, link := link, burst := none, rxTimer := none, returns := [] } :=
  { h with
    returns_le := Nat.zero_le _
    off_iff := he
    burst_listening := nofun
    timer_burst := nofun
    builder_idle := fun _ => hb
    responding_queue := fun hn => absurd hn hl
    suspended_returns := fun _ => rfl }

/-- R74. -/
theorem PortSound.suspend : PortSound { x with mode := .suspended, returns := [] } :=
  { h with returns_le := Nat.zero_le _, suspended_returns := fun _ => rfl }

theorem PortSound.run : PortSound { x with mode := .running } := { h with suspended_returns := nofun }

end

/-! ### The state: one port changes, or none -/

section
variable {s : State} (hs : PortsKept s)
include hs

theorem PortsKept.setPort {p : Port} {x : PortState} (hx : PortSound x) : PortsKept (s.setPort p x) := by
  refine portsKept_iff.mpr fun q => ?_
  rw [State.setPort_port]
  split
  · exact hx
  · exact hs.port q

theorem PortsKept.of_ports {t : State} (h : t.ports = s.ports) : PortsKept t :=
  portsKept_iff.mpr fun p => by
    rw [State.port_of_ports h]
    exact hs.port p

/-! ### Faults and suspension -/

theorem PortsKept.takeClaim (c : Claim) : PortsKept (s.takeClaim c) := hs.of_ports (s.takeClaim_ports c)

theorem PortsKept.setReportFlag (p : Port) (k : FaultKind) : PortsKept (s.setReportFlag p k) :=
  hs.setPort { hs.port p with }

theorem PortsKept.flagClaim (c : Claim) : PortsKept (s.flagClaim c) := by
  unfold State.flagClaim
  split
  · exact hs
  · exact hs.setReportFlag _ _

theorem PortsKept.skipReceiving (p : Port) : PortsKept (s.skipReceiving p) := by
  unfold State.skipReceiving
  split
  · exact hs.setPort ((hs.port p).withBurst _)
  · exact hs

theorem PortsKept.removeReceiving (p : Port) (how : UnitEnd) : PortsKept (s.removeReceiving p how) :=
  (hs.of_ports (s.unitsEnded_ports p _ how)).setPort ((hs.port p).withQueue (List.filter_sublist.map _))

theorem PortsKept.dropReceiving (p : Port) : PortsKept (s.dropReceiving p) := (hs.skipReceiving p).removeReceiving p _

theorem PortsKept.enterSuspended (p : Port) : PortsKept (s.enterSuspended p) :=
  (hs.dropReceiving p).setPort ((hs.dropReceiving p).port p).suspend

theorem PortsKept.raiseSuspended (p : Port) : PortsKept (s.raiseSuspended p) := (hs.setReportFlag p _).takeClaim _

theorem PortsKept.classTwoAction (c : Claim) : PortsKept (s.classTwoAction c) := by
  unfold State.classTwoAction
  split
  · exact hs
  · next p _ =>
    split
    · exact ((hs.enterSuspended p).of_ports (t := (s.enterSuspended p).setSuspendLatch p) rfl).raiseSuspended p
    · exact hs

theorem PortsKept.raise (c : Claim) : PortsKept (s.raise c) := ((hs.flagClaim c).takeClaim c).classTwoAction c

theorem PortsKept.raiseAll (cs : List Claim) : PortsKept (s.raiseAll cs) :=
  List.foldlRecOn cs State.raise hs fun _ hu c _ => hu.raise c

theorem PortsKept.suspendByCommand (p : Port) : PortsKept (s.suspendByCommand p) := by
  unfold State.suspendByCommand
  split
  · exact (hs.enterSuspended p).raiseSuspended p
  · exact hs

theorem PortsKept.settleDrain : PortsKept s.settleDrain := hs.of_ports s.settleDrain_ports

/-! ### Removal of work items and cutting of a response -/

theorem PortsKept.removeItems (p : Port) (chosen told : WorkItem → Bool) : PortsKept (s.removeItems p chosen told) := by
  refine (hs.of_ports (s.unitsEnded_ports p _ _)).setPort ((hs.port p).withQueue (filterMap_kinds_sublist _ ?_))
  intro i j h
  split at h
  · exact WorkItem.cutOff_kind h
  · cases h; rfl

theorem PortsKept.cutResponse (p : Port) : PortsKept (s.cutResponse p) := by
  unfold State.cutResponse
  split
  · next hl =>
    have told (t : Stream) : PortsKept ((s.unitEnded p t .aborted).dropRequestValue p) :=
      hs.of_ports (s.unitEnded_ports p t .aborted)
    have cut {u : State} (hu : PortsKept u) (hlink : (u.port p).link = .responding) :
        PortsKept (u.setPort p
          { u.port p with builder := Builder.idle, line := { (u.port p).line with status := .cut } }) :=
      hu.setPort { (hu.port p).withBuilder hlink Builder.idle with }
    dsimp only
    split
    · refine cut (told _) ?_
      rw [State.dropRequestValue_port, State.port_of_ports (s.unitEnded_ports _ _ _)]
      exact hl
    · exact cut hs hl
  · exact hs

/-- R117: after the cut the builder is IDLE. -/
theorem PortsKept.cutResponse_builder (p : Port) : ((s.cutResponse p).port p).builder = Builder.idle := by
  unfold State.cutResponse
  split
  · simp
  · next hl => exact (hs.port p).builder_idle hl

/-! ### Work items and commits -/

theorem PortsKept.countAck (p : Port) : PortsKept (s.countAck p) := hs.setPort ((hs.port p).withAck (Nat.min_le_left _ _))

theorem PortsKept.finishHead (p : Port) : PortsKept (s.finishHead p) := by
  unfold State.finishHead
  split
  · exact hs
  · next i rest hq =>
    have hports := s.unitEnded_ports p i.stream .drained
    refine PortsKept.countAck ((hs.of_ports hports).setPort (PortSound.withQueue ((hs.of_ports hports).port p) ?_)) p
    rw [State.port_of_ports hports, hq]
    exact List.sublist_cons_self _ _

/-- The head item takes another state. -/
theorem PortsKept.setHeadState (p : Port) (state : ItemState) :
    PortSound { s.port p with queue := setHeadState (s.port p).queue state } := by
  refine (hs.port p).withQueue ?_
  cases (s.port p).queue <;> exact List.Sublist.refl _

theorem PortsKept.continueCommit (p : Port) : PortsKept (s.continueCommit p) := by
  unfold State.continueCommit
  split
  · exact hs
  · split
    · exact hs
    · exact hs
    · split
      · exact hs
      · split
        · exact hs.finishHead p
        · split
          · exact (hs.raise _).finishHead p
          · split
            · exact hs
            · exact (hs.of_ports (t := s.setRequest p _) rfl).setPort (hs.setHeadState p _)

theorem PortsKept.continueReturn (p : Port) : PortsKept (s.continueReturn p) := hs.of_ports (s.continueReturn_ports p)

/-! ### Port operation -/

theorem PortsKept.enablePort {p : Port} (he : (s.port p).enabled = false) : PortsKept (s.enablePort p) := by
  have hoff := (hs.port p).off_iff.mpr he
  obtain ⟨hb, ht⟩ := (hs.port p).not_open (by rw [hoff]; nofun)
  exact hs.setPort { hs.port p with
    off_iff := by simp
    burst_listening := fun h => absurd hb h
    builder_idle := fun _ => (hs.port p).builder_idle (by rw [hoff]; nofun)
    responding_queue := nofun }

/-- R68: a disabled port, whether its enable bit is then 0 or it is enabled again. -/
theorem PortsKept.disablePort {p : Port} {link : LinkState} {enabled : Bool} (hl : link ≠ .responding)
    (he : link = .off ↔ enabled = false) :
    PortsKept ((s.disablePort p).setPort p { (s.disablePort p).port p with link := link, enabled := enabled }) := by
  have removed := (hs.cutResponse p).removeItems p (fun _ => true) fun i => !i.isLeaving
  have hb : (((s.cutResponse p).removeItems p (fun _ => true) fun i => !i.isLeaving).port p).builder = Builder.idle := by
    rw [State.removeItems, State.setPort_port_self]
    exact hs.cutResponse_builder p
  rw [State.disablePort, State.setPort_port_self, State.setPort_setPort]
  exact removed.setPort { ((removed.port p).leave hb hl he).withAck (Nat.zero_le _) with }

theorem PortsKept.writeEnable (p : Port) (written : Bool) : PortsKept (s.writeEnable p written) := by
  unfold State.writeEnable
  split
  · exact hs
  · next h => exact hs.enablePort h
  · exact hs
  · have hoff : ((s.disablePort p).port p).link = .off := by rw [State.disablePort, State.setPort_port_self]
    have disabled := hs.disablePort (p := p) (link := .off) (enabled := false) nofun (by simp)
    rwa [← hoff] at disabled

theorem PortsKept.writeEnables (v : Word) : PortsKept (s.writeEnables v) :=
  List.foldlRecOn allPorts _ hs fun _ hu p _ => hu.writeEnable p _

theorem PortsKept.takeLineUp (p : Port) : PortsKept (s.takeLineUp p) := by
  unfold State.takeLineUp
  split
  · next hl =>
    have up : PortSound { s.port p with link := .listening, expectation := none, responseCounter := 0 } :=
      { (hs.port p).synchronise hl with }
    exact (hs.setPort up).of_ports rfl
  · exact hs

/-- R71: the line is lost on an enabled port. -/
theorem PortsKept.loseLine {p : Port} (he : (s.port p).link ≠ .off) : PortsKept (s.loseLine p) := by
  have removed := (hs.cutResponse p).removeReceiving p .aborted
  have hb : (((s.cutResponse p).removeReceiving p .aborted).port p).builder = Builder.idle := by
    rw [State.removeReceiving, State.setPort_port_self]
    exact hs.cutResponse_builder p
  have hlink : (((s.cutResponse p).removeReceiving p .aborted).port p).link = (s.port p).link := by
    rw [State.link_of_wiring (State.removeReceiving_wiring _ p _)]
    unfold State.cutResponse
    split
    · rw [State.setPort_port_self]
      dsimp only
      split
      · rw [State.dropRequestValue_port, State.port_of_ports (s.unitEnded_ports _ _ _)]
      · rfl
    · rfl
  have left := (removed.port p).leave hb (link := .waitSync) nofun ((removed.port p).not_off (hlink ▸ he) nofun)
  exact (removed.setPort left).of_ports rfl

theorem PortsKept.takeLineDown (p : Port) : PortsKept (s.takeLineDown p) := by
  unfold State.takeLineDown
  split
  · exact hs
  · exact hs
  all_goals next hl => exact hs.loseLine (by rw [hl]; nofun)

theorem PortsKept.clearPort (p : Port) : PortsKept (s.clearPort p) := by
  have cleared : PortSound { s.port p with
      reportFlags := 0, returnLimit := 32, expectation := none, responseCounter := 0, ackCount := 0, mode := .running } :=
    { hs.port p with
      suspended_returns := nofun
      ack_le := Nat.zero_le _
      limit_pos := Nat.le_add_left 1 31
      limit_le := Nat.le_add_right 32 480 }
  exact (hs.setPort cleared).of_ports rfl

theorem PortsKept.resetOnePort (p : Port) : PortsKept (s.resetOnePort p) := by
  unfold State.resetOnePort
  split
  · exact (hs.disablePort (link := .waitSync) (enabled := true) nofun (by simp)).clearPort p
  · exact hs.clearPort p

/-! ### The decoder -/

theorem PortsKept.setPosition (p : Port) (x : Position) : PortsKept (s.setPosition p x) :=
  hs.setPort ((hs.port p).withBurst _)

theorem PortsKept.dropBurst (p : Port) : PortsKept (s.dropBurst p) := hs.setPort (hs.port p).dropBurst

/-- R47, R73: a LISTENING port with no open burst enters TURN_WAIT. -/
theorem PortsKept.handTurn {p : Port} (hl : (s.port p).link = .listening) (hb : (s.port p).burst = none) :
    PortsKept (s.handTurn p) := hs.setPort ((hs.port p).turn hl hb)

theorem PortsKept.closeBurst (p : Port) : PortsKept (s.closeBurst p) := by
  unfold State.closeBurst
  split
  · exact hs
  · next b hb =>
    have hl : (s.port p).link = .listening := (hs.port p).burst_listening (by simp [hb])
    have dropped := (hs.removeReceiving p .drained).dropBurst p
    have hlink : (((s.removeReceiving p .drained).dropBurst p).port p).link = .listening := by
      rw [State.dropBurst, State.setPort_port_self, State.link_of_wiring (State.removeReceiving_wiring s p _), hl]
    have hnone : (((s.removeReceiving p .drained).dropBurst p).port p).burst = none := by
      rw [State.dropBurst, State.setPort_port_self]
    have handed {u : State} (hu : PortsKept u)
        (hw : u.wiring = ((s.removeReceiving p .drained).dropBurst p).wiring) :
        PortsKept (if b.turnSeen then u.handTurn p else u) := by
      split
      · refine hu.handTurn ((State.link_of_wiring hw p).trans hlink) ?_
        have := State.burst_of_wiring hw p
        rw [hnone] at this
        exact Option.isSome_eq_false_iff.mp this |> Option.isNone_iff_eq_none.mp
      · exact hu
    dsimp only
    by_cases hend : b.position.endsNormally = true ∨ b.broken = true
    · rw [if_pos hend]
      exact handed dropped rfl
    · rw [if_neg hend]
      exact handed (dropped.raise _) (State.raise_wiring _ _)

theorem PortsKept.takeBurstStart (p : Port) : PortsKept (s.takeBurstStart p) := by
  unfold State.takeBurstStart
  split
  · dsimp only
    split
    · next hl => exact (hs.closeBurst p).setPort (((hs.closeBurst p).port p).openBurst hl _ _)
    · exact hs.closeBurst p
  · exact hs

theorem PortsKept.takeBurstEnd (p : Port) : PortsKept (s.takeBurstEnd p) := by
  unfold State.takeBurstEnd
  split
  · exact hs.closeBurst p
  · exact hs

theorem PortsKept.takeCodeViolation (p : Port) : PortsKept (s.takeCodeViolation p) := by
  unfold State.takeCodeViolation
  split
  · next hl =>
    split
    · exact hs
    · next b _ =>
      have hlink : ((s.removeReceiving p .drained).port p).link = .listening := by
        rw [State.link_of_wiring (State.removeReceiving_wiring s p _), hl]
      have removed := hs.removeReceiving p .drained
      have broken (b : Burst) : PortsKept ((s.removeReceiving p .drained).setPort p
          { (s.removeReceiving p .drained).port p with burst := some b }) :=
        removed.setPort ((removed.port p).openBurst hlink b _)
      split
      · exact hs
      all_goals
        dsimp only
        split
        · exact broken _
        · exact (broken _).raise _
  · exact hs

theorem PortsKept.expireReceive (p : Port) : PortsKept (s.expireReceive p) := by
  unfold State.expireReceive
  split
  · exact ((hs.removeReceiving p _).dropBurst p).raise _
  · exact hs

/-- R87 to R89: an item that passes the arrival checks joins the queue of a LISTENING port. -/
theorem PortsKept.appendItem {p : Port} {kind : ItemKind} {d : HeaderBits} (hl : (s.port p).link = .listening)
    (ha : s.judgeArrival p kind d = .appended) : PortsKept (s.appendItem p kind d) := by
  unfold State.judgeArrival at ha
  split at ha
  · cases ha
  split at ha
  · cases ha
  split at ha
  · cases ha
  next hroom =>
  split at ha
  · cases ha
  next hwrites =>
  refine hs.setPort { hs.port p with queue_le := ?_, writes_le := ?_, responding_queue := fun h => ?_ }
  · simp only [List.length_append, List.length_singleton]
    omega
  · have hkept := (hs.port p).writes_le
    by_cases hk : kind = .write
    · simp [hk] at hwrites
      simp [newItem, hk]
      omega
    · simpa [newItem, hk] using hkept
  · rw [hl] at h
    cases h

theorem PortsKept.offerPacket {p : Port} (hl : (s.port p).link = .listening) (kind : ItemKind) (d : HeaderBits) :
    PortsKept (s.offerPacket p kind d) := by
  unfold State.offerPacket
  split
  · exact (hs.raise _).setPosition p _
  · next ha => exact (hs.appendItem hl ha).setPosition p _

theorem PortsKept.takeLimit (p : Port) (d : HeaderBits) : PortsKept (s.takeLimit p d) := by
  unfold State.takeLimit
  split
  · next h => exact hs.setPort { hs.port p with limit_pos := h.1, limit_le := h.2 }
  · exact hs.raise _

theorem PortsKept.deliverWrite {p : Port} (hl : (s.port p).link = .listening) (d : HeaderBits) :
    PortsKept (s.deliverWrite p d) := by
  unfold State.deliverWrite
  dsimp only
  split
  · exact (hs.offerPacket hl _ d).dropReceiving p
  · exact hs.offerPacket hl _ d

theorem PortsKept.deliver {p : Port} (hl : (s.port p).link = .listening) (type : PacketType) (d : HeaderBits) :
    PortsKept (s.deliver p type d) := by
  cases type with
  | nop => exact (hs.countAck p).setPosition p _
  | limit => exact ((hs.takeLimit p d).countAck p).setPosition p _
  | turn => exact PortsKept.setPosition (hs.setPort ((hs.port p).withBurst _)) p _
  | pad => exact hs.setPosition p _
  | start => exact hs.offerPacket hl _ d
  | stop => exact hs.offerPacket hl _ d
  | read => exact hs.offerPacket hl _ d
  | write => exact hs.deliverWrite hl d

theorem PortsKept.acceptHeader {p : Port} (hl : (s.port p).link = .listening) (found : Mode) (turnSeen : Bool)
    (d : HeaderBits) : PortsKept (s.acceptHeader p found turnSeen d) := by
  unfold State.acceptHeader
  split
  · exact (hs.raise _).setPosition p _
  · exact (hs.raise _).setPosition p _
  · split
    · exact hs.setPosition p _
    · exact hs.deliver hl _ d

/-- R57: the sequence check keeps the ports and the link state. -/
theorem PortsKept.checkSequence (p : Port) (d : HeaderBits) :
    PortsKept (s.checkSequence p d) ∧ ((s.checkSequence p d).port p).link = (s.port p).link := by
  have expecting {u : State} (hu : PortsKept u) (hw : u.wiring = s.wiring) (e : Option (BitVec 3)) :
      PortsKept (u.setPort p { u.port p with expectation := e }) ∧
        ((u.setPort p { u.port p with expectation := e }).port p).link = (s.port p).link :=
    ⟨hu.setPort { hu.port p with }, by rw [State.setPort_port_self, State.link_of_wiring hw]⟩
  unfold State.checkSequence
  dsimp only
  split
  · exact expecting hs rfl _
  · split
    · exact expecting hs rfl _
    · exact expecting (hs.raise _) (State.raise_wiring _ _) _

theorem PortsKept.takeHeader {p : Port} (hl : (s.port p).link = .listening) (turnSeen : Bool) (d : HeaderBits)
    (check : Byte) : PortsKept (s.takeHeader p turnSeen d check) := by
  have accepted {u : State} (hu : PortsKept u) (hw : u.wiring = s.wiring) (d : HeaderBits) :
      PortsKept ((u.checkSequence p d).acceptHeader p (s.port p).mode turnSeen d) := by
    obtain ⟨hc, hlink⟩ := hu.checkSequence p d
    exact hc.acceptHeader (by rw [hlink, State.link_of_wiring hw, hl]) _ _ _
  unfold State.takeHeader
  dsimp only
  split
  · exact accepted hs rfl _
  · exact accepted (hs.raise _) (State.raise_wiring _ _) _
  · exact (hs.raise _).setPosition p _

theorem PortsKept.receiveCell (p : Port) (v : Word) : PortsKept (s.receiveCell p v) := by
  unfold State.receiveCell
  split
  · exact hs
  · refine hs.setPort { (hs.port p).withQueue (map_kinds _ fun i => ?_) with }
    split <;> rfl

theorem PortsKept.readyReceiving (p : Port) : PortsKept (s.readyReceiving p) := by
  refine hs.setPort ((hs.port p).withQueue (map_kinds _ fun i => ?_))
  split <;> rfl

theorem PortsKept.compareSum (p : Port) (d : HeaderBits) (sum received : Word) :
    PortsKept (s.compareSum p d sum received) := by
  unfold State.compareSum
  refine PortsKept.setPosition ?_ p _
  split
  · split
    · exact hs.readyReceiving p
    · exact (hs.removeReceiving p _).raise _
  · split
    · exact hs.countAck p
    · exact hs.raise _

theorem PortsKept.takeByteIn {p : Port} (hl : (s.port p).link = .listening) (burst : Burst) (b : Byte) :
    PortsKept (s.takeByteIn p burst b) := by
  unfold State.takeByteIn
  split
  · exact hs.takeHeader hl _ _ _
  · exact hs.setPosition p _
  · unfold State.takePayloadByte
    refine PortsKept.setPosition ?_ p _
    split
    · exact hs.receiveCell p _
    · exact hs
  · exact hs.setPosition p _
  · exact hs.compareSum p _ _ _
  · exact hs.setPosition p _
  · exact hs

theorem PortsKept.takeByte (p : Port) (b : Byte) : PortsKept (s.takeByte p b) := by
  unfold State.takeByte
  split
  · next hl =>
    split
    · exact hs
    · exact hs.takeByteIn hl _ b
  · exact hs

/-! ### Grants -/

theorem PortsKept.cellCommitted (p : Port) : PortsKept (s.cellCommitted p) := by
  unfold State.cellCommitted
  split
  · exact hs
  · next i rest hq =>
    have shorter {u : State} (hu : u.ports = s.ports) : PortsKept (u.setPort p { u.port p with queue := rest }) := by
      refine (hs.of_ports hu).setPort (PortSound.withQueue ((hs.of_ports hu).port p) ?_)
      rw [State.port_of_ports hu, hq]
      exact List.sublist_cons_self _ _
    split
    · exact hs
    · exact hs
    · split
      · dsimp only
        split
        · exact shorter rfl
        · exact shorter (s.unitEnded_ports _ _ _)
      · exact hs.setPort (hs.setHeadState p _)

/-- R112: a value is placed only in a RETURN being sent. -/
theorem PortsKept.placeCell (p : Port) (v : Word) : PortsKept (s.placeCell p v) := by
  cases hc : (s.port p).builder.current with
  | none => rwa [State.placeCell_of_none hc]
  | some r =>
    rw [State.placeCell_of_some hc]
    exact hs.setPort ((hs.port p).withBuilder ((hs.port p).responding_of_current hc) _)

theorem PortsKept.performPort (p : Port) : PortsKept (s.performPort p) := by
  unfold State.performPort
  split
  · exact hs.of_ports rfl
  · next r _ =>
    dsimp only
    split
    · next v _ =>
      have written : PortsKept ((((s.releasePort p).writeCell r.row r.column v).markFor r).advanceFor p r) := by
        refine hs.of_ports ?_
        rw [State.advanceFor_ports, State.markFor_ports]
        rfl
      exact (written.cellCommitted p).continueCommit p
    · have moved : PortsKept ((s.releasePort p).advanceFor p r) :=
        hs.of_ports ((State.advanceFor_ports _ p r).trans rfl)
      refine PortsKept.continueReturn (PortsKept.continueCommit ?_ p) p
      split
      · exact moved.placeCell p _
      · exact moved

/-! ### The execution of work items -/

/-- R29 to R34: START and STOP change contexts and raise faults. -/
theorem PortsKept.startEffect (p : Port) (i : WorkItem) : PortsKept (s.startEffect p i) := by
  unfold State.startEffect
  split
  · exact hs.raise _
  · split
    · exact hs.raise _
    · next b _ =>
      have loaded : PortsKept (s.loadContext p i.stream b) := hs.of_ports rfl
      split
      · exact hs.raise _
      · split
        · exact loaded
        · split
          · exact hs
          · exact loaded.raise _

theorem PortsKept.stopEffect (p : Port) (i : WorkItem) : PortsKept (s.stopEffect p i) := by
  have emptied : PortsKept (s.emptyContext p i.stream) := hs.of_ports rfl
  unfold State.stopEffect
  split
  · exact hs.raise _
  · split
    · exact hs.raise _
    · exact emptied
    · exact emptied
    · exact hs
    · exact hs.raise _

/-- R102, R103: a READ joins the return queue of a RUNNING port that has room. -/
theorem PortsKept.joinReturns (p : Port) (i : WorkItem) : PortsKept (s.joinReturns p i) := by
  unfold State.joinReturns
  split
  · exact hs
  · next hm =>
    split
    · next hroom =>
      refine hs.setPort { hs.port p with returns_le := ?_, suspended_returns := fun h => ?_ }
      · simp only [List.length_append, List.length_singleton]
        omega
      · rw [hm] at h
        cases h
    · exact hs.raise _

theorem PortsKept.readEffect (p : Port) (i : WorkItem) : PortsKept (s.readEffect p i) := by
  unfold State.readEffect
  split
  · exact hs.raise _
  · split
    · exact hs.raise _
    · split
      · exact hs.joinReturns p i
      · exact hs.raise _
    all_goals exact hs.raise _

theorem PortsKept.executeStart (p : Port) : PortsKept (s.executeStart p) := by
  unfold State.executeStart
  split
  · exact hs
  · exact (hs.startEffect p _).finishHead p

theorem PortsKept.executeStop (p : Port) : PortsKept (s.executeStop p) := by
  unfold State.executeStop
  split
  · exact hs
  · exact (hs.stopEffect p _).finishHead p

theorem PortsKept.executeRead (p : Port) : PortsKept (s.executeRead p) := by
  unfold State.executeRead
  split
  · exact hs
  · exact (hs.readEffect p _).finishHead p

theorem PortsKept.executeWrite (p : Port) : PortsKept (s.executeWrite p) := by
  unfold State.executeWrite
  split
  · exact hs
  · split
    · exact (hs.raise _).finishHead p
    · exact (hs.setPort (hs.setHeadState p _)).continueCommit p

/-! ### Responses -/

theorem PortsKept.endReturns {p : Port} (hl : (s.port p).link = .responding) : PortsKept (s.endReturns p) :=
  hs.setPort ((hs.port p).withBuilder hl _)

theorem PortsKept.endReturnsIfDone (p : Port) : PortsKept (s.endReturnsIfDone p) := by
  unfold State.endReturnsIfDone
  split
  · next h => exact hs.endReturns ((hs.port p).responding_of_phase (by rw [h.1]; nofun))
  · exact hs

/-- R73, R108: a port in TURN_WAIT with an empty work queue becomes RESPONDING. -/
theorem PortsKept.startResponse (p : Port) : PortsKept (s.startResponse p) := by
  unfold State.startResponse
  split
  · next h =>
    refine PortsKept.endReturnsIfDone (hs.setPort ?_) p
    exact { (hs.port p).respond h.1 h.2 _ with }
  · exact hs

theorem PortsKept.beginSized {p : Port} (hl : (s.port p).link = .responding) (t : Stream) (n : Nat) :
    PortsKept (s.beginSized p t n) := by
  unfold State.beginSized
  split
  · refine PortsKept.continueReturn (hs.setPort ?_) p
    exact { (hs.port p).withBuilder hl _ with }
  · exact hs.endReturnsIfDone p

theorem PortsKept.serveEntry {p : Port} (hl : (s.port p).link = .responding) (e : ReturnEntry) :
    PortsKept (s.serveEntry p e) := by
  unfold State.serveEntry
  split
  · exact (hs.raise _).endReturnsIfDone p
  · exact (hs.raiseAll _).beginSized ((State.link_of_wiring (State.raiseAll_wiring _ _) p).trans hl) _ _

theorem PortsKept.takeEntry (p : Port) : PortsKept (s.takeEntry p) := by
  unfold State.takeEntry
  split
  · next h =>
    have hl := (hs.port p).responding_of_phase (by rw [h.1]; nofun)
    split
    · exact hs.endReturns hl
    · next e rest hr =>
      have taken : PortSound { s.port p with returns := rest } :=
        (hs.port p).withReturns (hr ▸ List.sublist_cons_self _ _)
      exact (hs.setPort taken).serveEntry (by rw [State.setPort_port_self, hl]) e
  · exact hs

theorem PortsKept.endReturn (p : Port) : PortsKept (s.endReturn p) := by
  unfold State.endReturn
  split
  · exact hs
  · next r hc =>
    split
    · exact hs
    · have hports := s.unitEnded_ports p r.stream .drained
      have ended : PortsKept (s.unitEnded p r.stream .drained) := hs.of_ports hports
      have hl : ((s.unitEnded p r.stream .drained).port p).link = .responding := by
        rw [State.port_of_ports hports]
        exact (hs.port p).responding_of_current hc
      refine PortsKept.endReturnsIfDone (ended.setPort ?_) p
      exact { (ended.port p).withBuilder hl _ with }

theorem PortsKept.sendShort {p : Port} (hl : (s.port p).link = .responding) (type : Byte) (parameter : Word) :
    PortsKept (s.sendShort p type parameter) := hs.setPort { (hs.port p).withBuilder hl _ with }

theorem PortsKept.sendReport (p : Port) : PortsKept (s.sendReport p) := by
  unfold State.sendReport
  split
  · next hp _ =>
    split
    · exact hs
    · exact hs.sendShort ((hs.port p).responding_of_phase (by rw [hp]; nofun)) _ _
  · exact hs

theorem PortsKept.sendAck (p : Port) : PortsKept (s.sendAck p) := by
  unfold State.sendAck
  split
  · next hp _ =>
    split
    · exact hs.sendShort ((hs.port p).responding_of_phase (by rw [hp]; nofun)) _ _
    · exact hs
  · exact hs

/-- R116: the port goes from RESPONDING to LISTENING with an IDLE builder. -/
theorem PortsKept.sendEnd (p : Port) : PortsKept (s.sendEnd p) := by
  unfold State.sendEnd
  split
  · next hp =>
    have hl := (hs.port p).responding_of_phase (by rw [hp]; nofun)
    exact hs.setPort { ((hs.port p).listenAgain hl).withAck (Nat.zero_le _) with }
  · exact hs

/-! ### Retirement -/

theorem PortsKept.retireTake (x : Scope) : PortsKept (s.retireTake x) := by
  have taken : PortsKept (s.taken x) := portsKept_iff.mpr fun p => by
    rw [State.taken_port]
    exact (hs.port p).withReturns List.filter_sublist
  rw [State.retireTake_eq]
  exact taken.raiseAll _

/-- R118: a RETURN is cut short only on a RESPONDING port. -/
theorem PortsKept.zeroFillReturn {p : Port} (hl : (s.port p).link = .responding) (r : CurrentReturn) :
    PortsKept (s.zeroFillReturn p r) := by
  have hports : ((s.unitEnded p r.stream .aborted).dropRequestValue p).ports = s.ports :=
    s.unitEnded_ports p r.stream .aborted
  have ended := hs.of_ports hports
  have hlink : (((s.unitEnded p r.stream .aborted).dropRequestValue p).port p).link = .responding := by
    rw [State.port_of_ports hports, hl]
  exact (ended.setPort ((ended.port p).withBuilder hlink _)).of_ports rfl

theorem PortsKept.abortContext (h : Port × Stream) : PortsKept (s.abortContext h) := by
  have removed {u : State} (hu : PortsKept u) : PortsKept ((u.removeItems h.1 (fun i => i.stream == h.2)
      (fun i => !i.isCounted)).endWalk h.1 h.2) := (hu.removeItems _ _ _).of_ports rfl
  have cut {u : State} (hu : PortsKept u) : PortsKept (match u.liveReturn h.1 h.2 with
      | none => u.setContext h.1 h.2 (u.context h.1 h.2).retire
      | some r =>
        ((u.zeroFillReturn h.1 r).setContext h.1 h.2 ((u.zeroFillReturn h.1 r).context h.1 h.2).retire).raise
          (s.contextClaim .retired h.1 h.2 r.header)) := by
    split
    · exact hu.of_ports rfl
    · next r hr =>
      have hl := (hu.port h.1).responding_of_current (State.liveReturn_eq_some.mp hr).1
      exact PortsKept.raise ((hu.zeroFillReturn hl r).of_ports (State.setContext_ports _ _ _ _)) _
  unfold State.abortContext
  split
  · split
    · exact cut (removed (hs.skipReceiving h.1))
    · exact cut (removed hs)
  · exact hs

theorem PortsKept.abortRetiring : PortsKept s.abortRetiring :=
  List.foldlRecOn allHeads State.abortContext hs fun _ hu h _ => hu.abortContext h

theorem PortsKept.complete (code : ResultCode) : PortsKept (s.complete code) :=
  hs.of_ports (s.completeWith_ports code 0 0 0)

theorem PortsKept.completeRetire (code : ResultCode) : PortsKept (s.completeRetire code) :=
  hs.of_ports (s.completeRetire_ports code)

theorem PortsKept.retireCommand : PortsKept s.retireCommand := by
  unfold State.retireCommand
  split
  · exact hs.complete _
  · next x _ =>
    split
    · exact hs.complete _
    · split
      · have begun (u : State) : u.beginDrain.ports = u.ports := rfl
        exact (hs.retireTake x).of_ports (begun _)
      · exact (hs.retireTake x).abortRetiring.completeRetire _

theorem PortsKept.expireDrain : PortsKept s.expireDrain := by
  unfold State.expireDrain
  split
  · exact hs.abortRetiring.completeRetire _
  · exact hs

/-! ### Commands of the command unit -/

theorem PortsKept.runCommand (c : Option Command) : PortsKept (s.runCommand c) := by
  cases c with
  | none => exact hs.complete _
  | some c =>
    cases c with
    | retire => exact hs.retireCommand
    | suspendPort =>
      simp only [State.runCommand, State.suspendCommand]
      split
      · exact hs.complete _
      · exact (hs.suspendByCommand _).complete _
    | resumePort =>
      simp only [State.runCommand, State.resumeCommand]
      split
      · exact hs.complete _
      · next p _ =>
        split
        · exact hs.complete _
        · exact (hs.setPort (hs.port p).run).complete _
    | resetPort =>
      simp only [State.runCommand, State.resetPortCommand]
      split
      · exact hs.complete _
      · exact (hs.resetOnePort _).complete _
    | defineAperture =>
      refine hs.of_ports ?_
      simp only [State.runCommand, State.defineCommand]
      split <;> rfl
    | clearAperture =>
      refine hs.of_ports ?_
      simp only [State.runCommand, State.clearCommand]
      (repeat' split) <;> rfl
    | bind =>
      refine hs.of_ports ?_
      simp only [State.runCommand, State.bindCommand]
      (repeat' split) <;> rfl
    | unbind =>
      refine hs.of_ports ?_
      simp only [State.runCommand, State.unbindCommand]
      (repeat' split) <;> rfl
    | hostOpen =>
      refine hs.of_ports ?_
      simp only [State.runCommand, State.hostOpenCommand]
      (repeat' split) <;> rfl
    | hostClose => exact hs.of_ports rfl

theorem PortsKept.writeCmd (v : Word) : PortsKept (s.writeCmd v) := by
  unfold State.writeCmd
  split
  · exact hs.of_ports rfl
  · exact PortsKept.runCommand (hs.of_ports (t := s.takeCommand v) rfl) _

omit hs in
/-- R84: after a soft reset a port is OFF with everything empty, and a return limit of 32. -/
theorem PortsKept.softResetAll : PortsKept s.softResetAll := by
  refine portsKept_iff.mpr fun p => ?_
  have hport : s.softResetAll.port p = (s.finishGrant.port p).softReset := by
    simp [State.softResetAll, State.softResetBlocks, State.port]
  rw [hport]
  exact {
    queue_le := Nat.zero_le _
    writes_le := Nat.zero_le _
    returns_le := Nat.zero_le _
    off_iff := by simp [PortState.softReset]
    burst_listening := fun h => absurd rfl h
    timer_burst := fun h => absurd rfl h
    builder_idle := fun _ => rfl
    responding_queue := fun _ => rfl
    suspended_returns := fun _ => rfl
    ack_le := Nat.zero_le _
    limit_pos := by simp [PortState.softReset]
    limit_le := by simp [PortState.softReset] }

theorem PortsKept.writeControl (v : Word) : PortsKept (s.writeControl v) := by
  unfold State.writeControl
  split
  · exact .softResetAll
  · exact hs.writeEnables v

/-! ### Bus cycles and the grants of the host -/

theorem PortsKept.writeCycle (r : Register) (v : Word) : PortsKept (s.writeCycle r v) := by
  cases r with
  | control => exact hs.writeControl v
  | cmd => exact hs.writeCmd v
  | rxLimit p => exact hs.setPort { hs.port p with }
  | hostData =>
    simp only [State.writeCycle, State.hostWrite]
    split
    · exact hs.raise _
    · exact hs.of_ports (s.postHost_ports _ _)
  | ctxSelect =>
    simp only [State.writeCycle, State.writeCtxSelect]
    split
    · exact hs.of_ports rfl
    · exact hs
  | _ => exact hs.of_ports rfl

theorem PortsKept.readCycle (r : Register) (released : Bool) : PortsKept (s.readCycle r released) := by
  cases r with
  | hostData =>
    simp only [State.readCycle, State.hostRead]
    split
    · exact (hs.raise _).of_ports rfl
    · exact hs.of_ports (s.postHost_ports _ _)
  | ctxCursor hi => cases hi <;> exact hs.of_ports rfl
  | hostCursor hi => cases hi <;> exact hs.of_ports rfl
  | _ => exact hs.of_ports rfl

theorem PortsKept.takeCycle (c : BusCycle) : PortsKept (s.takeCycle c) := by
  cases c with
  | read r released => exact (hs.readCycle r released).settleDrain
  | write r v => exact (hs.writeCycle r v).settleDrain

theorem PortsKept.takeHeldCycle (c : BusCycle) (behind : List BusCycle) : PortsKept (s.takeHeldCycle c behind) := by
  unfold State.takeHeldCycle
  split
  · exact (hs.takeCycle c).of_ports rfl
  · exact hs.takeCycle c

omit hs in
theorem PortsKept.takeHeld (held : List BusCycle) : ∀ {s : State}, PortsKept s → PortsKept (s.takeHeld held) := by
  induction held with
  | nil => exact fun hs => hs.of_ports rfl
  | cons c rest ih =>
    intro s hs
    have hc := hs.takeHeldCycle c rest
    rw [State.takeHeld_cons]
    split
    · exact hc.of_ports rfl
    · exact ih hc

theorem PortsKept.performGrant : PortsKept s.performGrant := by
  unfold State.performGrant
  split
  · exact hs
  · exact hs.performPort _
  · unfold State.performHost
    split
    · exact hs.of_ports rfl
    · exact PortsKept.takeHeld _ (hs.of_ports (s.performHostAccess_ports _))

/-! ### Commands and the microsecond -/

theorem PortsKept.of_operate {t : State} {effect : State → State} (he : PortsKept (effect s))
    (h : operate s effect = .next t) : PortsKept t := by
  unfold operate at h
  split at h <;> cases h
  · exact hs
  · exact he.settleDrain

theorem PortsKept.of_busCommand {t : State} {c : BusCycle} (h : busCommand s c = .next t) : PortsKept t := by
  unfold busCommand State.hostCycle at h
  (repeat' split at h) <;> cases h
  · exact hs
  · exact hs.of_ports rfl
  · exact hs.takeCycle c

theorem PortsKept.driveReset (asserted : Bool) : PortsKept (s.driveReset asserted) := by
  cases asserted with
  | true =>
    obtain ⟨-, -, -, -, hreset, -⟩ := powerOnStateIsKept
    exact hreset.of_ports rfl
  | false => exact hs.of_ports rfl

omit hs in
/-- Every command is POWER_ON_RESET, an event that keeps the ports, or a host bus cycle. -/
theorem exec_portsKept_cases (c : Instr) :
    (∃ asserted, ∀ s, exec c s = .next (s.driveReset asserted)) ∨
      (∃ effect : State → State, (∀ s, PortsKept s → PortsKept (effect s)) ∧ ∀ s, exec c s = operate s effect) ∨
      ∃ cycle, ∀ s, exec c s = busCommand s cycle := by
  cases c with
  | powerOnReset asserted => exact .inl ⟨asserted, exec_powerOnReset asserted⟩
  | lineUp p => exact .inr (.inl ⟨_, fun _ hs => hs.takeLineUp p, exec_lineUp p⟩)
  | lineDown p => exact .inr (.inl ⟨_, fun _ hs => hs.takeLineDown p, exec_lineDown p⟩)
  | burstStart p => exact .inr (.inl ⟨_, fun _ hs => hs.takeBurstStart p, exec_burstStart p⟩)
  | byte p b => exact .inr (.inl ⟨_, fun _ hs => hs.takeByte p b, exec_byte p b⟩)
  | burstEnd p => exact .inr (.inl ⟨_, fun _ hs => hs.takeBurstEnd p, exec_burstEnd p⟩)
  | codeViolation p => exact .inr (.inl ⟨_, fun _ hs => hs.takeCodeViolation p, exec_codeViolation p⟩)
  | receiveTimeout p => exact .inr (.inl ⟨_, fun _ hs => hs.expireReceive p, exec_receiveTimeout p⟩)
  | startItem p => exact .inr (.inl ⟨_, fun _ hs => hs.executeStart p, exec_startItem p⟩)
  | stopItem p => exact .inr (.inl ⟨_, fun _ hs => hs.executeStop p, exec_stopItem p⟩)
  | readItem p => exact .inr (.inl ⟨_, fun _ hs => hs.executeRead p, exec_readItem p⟩)
  | writeItem p => exact .inr (.inl ⟨_, fun _ hs => hs.executeWrite p, exec_writeItem p⟩)
  | arbiterGrant => exact .inr (.inl ⟨_, fun s hs => hs.of_ports (t := s.chooseGrant) rfl, exec_arbiterGrant⟩)
  | grantPerformed => exact .inr (.inl ⟨_, fun _ hs => hs.performGrant, exec_grantPerformed⟩)
  | responseStart p => exact .inr (.inl ⟨_, fun _ hs => hs.startResponse p, exec_responseStart p⟩)
  | returnEntryTake p => exact .inr (.inl ⟨_, fun _ hs => hs.takeEntry p, exec_returnEntryTake p⟩)
  | returnEnd p => exact .inr (.inl ⟨_, fun _ hs => hs.endReturn p, exec_returnEnd p⟩)
  | reportSent p => exact .inr (.inl ⟨_, fun _ hs => hs.sendReport p, exec_reportSent p⟩)
  | ackSent p => exact .inr (.inl ⟨_, fun _ hs => hs.sendAck p, exec_ackSent p⟩)
  | endSymbolSent p => exact .inr (.inl ⟨_, fun _ hs => hs.sendEnd p, exec_endSymbolSent p⟩)
  | drainTimerExpiry => exact .inr (.inl ⟨_, fun _ hs => hs.expireDrain, exec_drainTimerExpiry⟩)
  | _ => exact .inr (.inr ⟨_, fun _ => rfl⟩)

theorem PortsKept.of_exec {t : State} (c : Instr) (h : exec c s = .next t) : PortsKept t := by
  obtain ⟨asserted, hc⟩ | ⟨effect, he, hc⟩ | ⟨cycle, hc⟩ := exec_portsKept_cases c <;> rw [hc] at h
  · cases h
    exact hs.driveReset asserted
  · exact hs.of_operate (he s hs) h
  · exact hs.of_busCommand h

/-- R61: a stopped receive timer stays stopped. -/
theorem PortsKept.countReceive (p : Port) : PortsKept (s.countReceive p) :=
  hs.setPort { hs.port p with timer_burst := fun h => (hs.port p).timer_burst fun e => h (by simp [e, timerTick]) }

theorem PortsKept.tickReceive (p : Port) : PortsKept (s.tickReceive p) := by
  unfold State.tickReceive
  split
  · exact ((hs.countReceive p).expireReceive p).settleDrain
  · exact hs.countReceive p

theorem PortsKept.tick : PortsKept s.tick := by
  unfold State.tick
  split
  · exact hs
  · have counted : PortsKept (allPorts.foldl State.tickReceive s) :=
      List.foldlRecOn allPorts State.tickReceive hs fun _ hu p _ => hu.tickReceive p
    have counts (u : State) : u.countDrain.ports = u.ports := rfl
    have counting := counted.of_ports (counts _)
    unfold State.tickDrain
    split
    · exact counting.expireDrain
    · exact counting

end

/-- Settles O58: the step is one command on the state with the rest of the queue, or one microsecond. -/
theorem portsKeptByEveryStep : Obligations.PortsKeptByEveryStep := by
  intro s t hs h
  unfold step at h
  split at h
  · cases h
    exact hs.tick
  · next c rest _ => exact PortsKept.of_exec (hs.of_ports (t := { s with pending := rest }) rfl) c h

end Sys2Proof

/-! PROOFS. Suspension (R74): by a fault of class 2 (R79, R164, R167), by SUSPEND_PORT, and its end by RESUME_PORT (R77,
R132). -/

namespace Sys2Proof.Machine

/-! ### The RECEIVING item and the decoder (R45, R69) -/

theorem filter_not_receiving {queue : List WorkItem} (h : ∀ i ∈ queue, i.isReceiving = false) :
    (queue.filter fun i => !i.isReceiving) = queue ∧ (queue.filter fun i => i.isReceiving) = [] := by
  refine ⟨List.filter_eq_self.mpr fun i hi => ?_, List.filter_eq_nil_iff.mpr fun i hi => ?_⟩ <;> simp [h i hi]

/-- R69: with no RECEIVING item there is nothing to remove. -/
theorem State.removeReceiving_of_none {s : State} {p : Port} (h : ∀ i ∈ (s.port p).queue, i.isReceiving = false)
    (how : UnitEnd) : s.removeReceiving p how = s := by
  obtain ⟨hkept, hgone⟩ := filter_not_receiving h
  rw [State.removeReceiving, hkept, hgone]
  exact s.setPort_port_id p

theorem State.skipReceiving_eq (s : State) (p : Port) :
    s.skipReceiving p =
      s.setPort p
        { s.port p with
          burst :=
            if (s.port p).queue.any fun i => i.isReceiving then (s.port p).burst.map Burst.skipWrite
            else (s.port p).burst } := by
  unfold State.skipReceiving
  split
  · rfl
  · exact (s.setPort_port_id p).symm

/-- R45, log entry 13: where the decoder goes when the WRITE packet in hand loses its item. -/
def Position.skipWrite : Position → Position
  | .take d n last sum =>
    if headerType d = 0xA1 then .skip d (2 * (headerParameter d).toNat + 2 - n) else .take d n last sum
  | .check d low sum => if headerType d = 0xA1 then .skip d (if low = none then 2 else 1) else .check d low sum
  | .header collected => .header collected
  | .skip d owed => .skip d owed
  | .discard => .discard

theorem Burst.skipWrite_eq (b : Burst) : b.skipWrite = { b with position := b.position.skipWrite } := by
  obtain ⟨position, turnSeen, broken⟩ := b
  cases position with
  | take d n last sum => by_cases h : headerType d = 0xA1#8 <;> simp [Burst.skipWrite, Position.skipWrite, writeCode, h]
  | check d low sum =>
    by_cases h : headerType d = 0xA1#8
    · cases low <;> simp [Burst.skipWrite, Position.skipWrite, writeCode, h]
    · simp [Burst.skipWrite, Position.skipWrite, writeCode, h]
  | header collected => rfl
  | skip d owed => rfl
  | discard => rfl

/-- R45: the decoder skips what the packet of the removed item still owes. -/
theorem State.dropReceiving_eq (s : State) (p : Port) :
    s.dropReceiving p =
      (let s1 := s.removeReceiving p .aborted
       s1.setPort p
        { s1.port p with
          burst :=
            if (s.port p).queue.any fun i => i.isReceiving then (s.port p).burst.map Burst.skipWrite
            else (s.port p).burst }) := by
  have forced (x : PortState) : (s.setPort p x).forced = s.forced := rfl
  have withAborted (x y : PortState) (n : Nat) :
      ((s.setPort p x).withAborted n).setPort p y = (s.withAborted n).setPort p y := by
    show (({ s with ports := s.ports.set p x } : State).withAborted n).setPort p y = _
    simp [State.setPort, State.withAborted]
  rw [State.dropReceiving, State.skipReceiving_eq]
  simp only [State.removeReceiving, State.setPort_port_self, State.unitsEnded_aborted]
  rw [forced, withAborted]
  simp only [State.setPort_setPort]
  rfl

/-! ### Entry into suspension (R74) -/

/-- R74: a port after its entry into SUSPENDED mode. -/
def PortState.suspended (x : PortState) : PortState :=
  { x with
    mode := .suspended
    returns := []
    queue := x.queue.filter fun i => !i.isReceiving
    burst := if x.queue.any fun i => i.isReceiving then x.burst.map Burst.skipWrite else x.burst }

/-- R74, R146: the entry changes the port, and counts the unit it removes. -/
theorem State.enterSuspended_eq (s : State) (p : Port) :
    s.enterSuspended p =
      (s.unitsEnded p ((s.port p).queue.filter fun i => i.isReceiving) .aborted).setPort p (s.port p).suspended := by
  rw [State.enterSuspended, State.dropReceiving_eq]
  simp only [State.removeReceiving, State.setPort_port_self, State.setPort_setPort]
  rfl

theorem PortState.suspended_of_none {x : PortState} (h : ∀ i ∈ x.queue, i.isReceiving = false) :
    x.suspended = { x with mode := .suspended, returns := [] } := by
  have none_any : (x.queue.any fun i => i.isReceiving) = false := by simpa using h
  simp [PortState.suspended, (filter_not_receiving h).1, none_any]

/-- R85: an item is RECEIVING only at the tail of its queue. -/
theorem filter_receiving_append {ahead : List WorkItem} {i : WorkItem} (h : ∀ j ∈ ahead, j.isReceiving = false)
    (hi : i.isReceiving = true) :
    ((ahead ++ [i]).filter fun i => !i.isReceiving) = ahead ∧ ((ahead ++ [i]).filter fun i => i.isReceiving) = [i] := by
  obtain ⟨hkept, hgone⟩ := filter_not_receiving h
  simp [List.filter_append, hkept, hgone, hi]

theorem PortState.suspended_of_append {x : PortState} {ahead : List WorkItem} {i : WorkItem}
    (hq : x.queue = ahead ++ [i]) (h : ∀ j ∈ ahead, j.isReceiving = false) (hi : i.isReceiving = true) :
    x.suspended =
      { x with mode := .suspended, returns := [], queue := ahead, burst := x.burst.map Burst.skipWrite } := by
  simp [PortState.suspended, hq, (filter_receiving_append h hi).1, hi]

/-! ### A fault raised on a head port (R79, R164, R167) -/

theorem State.takeClaim_retire (s : State) (c : Claim) : (s.takeClaim c).retire = s.retire := by
  rw [State.takeClaim_eq]
  rfl

theorem State.takeClaim_command (s : State) (c : Claim) : (s.takeClaim c).command = s.command := by
  rw [State.takeClaim_eq]
  rfl

section
variable {s : State} {c : Claim} {p : Port} (hc : c.source = .port p)
include hc

omit hc in
/-- R145, R146: one unit that ends by an abort. -/
theorem State.unitsEnded_singleton (s : State) (p : Port) (i : WorkItem) :
    s.unitsEnded p [i] .aborted =
      { s with
        retire :=
          if (s.context p i.stream).state = .retiring then { s.retire with aborted := min 255 (s.retire.aborted + 1) }
          else s.retire } := by
  show s.unitEnded p i.stream .aborted = _
  unfold State.unitEnded
  split <;> rfl

/-- R79, R164: outside class 2, and on a SUSPENDED port, the flag is set and the fault unit takes the claim. -/
theorem State.raise_quiet (h : s.faults.classMap.get c.kind.number ≠ .class2 ∨ (s.port p).mode = .suspended) :
    s.raise c = (s.setReportFlag p c.kind).takeClaim c := by
  have flagged : s.flagClaim c = s.setReportFlag p c.kind := by rw [State.flagClaim, hc]
  have hmode : (((s.setReportFlag p c.kind).takeClaim c).port p).mode = (s.port p).mode := by
    rw [State.port_of_ports (State.takeClaim_ports _ c), State.setReportFlag, State.setPort_port_self]
  rw [State.raise, flagged, State.classTwoAction, hc]
  refine if_neg ?_
  rintro ⟨hclass, hrunning⟩
  rw [State.takeClaim_classMap] at hclass
  rw [hmode] at hrunning
  rcases h with h | h
  · exact h hclass
  · rw [hrunning] at h
    cases h

/-- R167: in class 2 it also suspends a RUNNING port, sets its SUSPEND latch and raises SUSPENDED. -/
theorem State.raise_suspending (hclass : s.faults.classMap.get c.kind.number = .class2)
    (hmode : (s.port p).mode = .running) :
    s.raise c = ((((s.setReportFlag p c.kind).takeClaim c).enterSuspended p).setSuspendLatch p).raiseSuspended p := by
  have flagged : s.flagClaim c = s.setReportFlag p c.kind := by rw [State.flagClaim, hc]
  have hmode : (((s.setReportFlag p c.kind).takeClaim c).port p).mode = .running := by
    rw [State.port_of_ports (State.takeClaim_ports _ c), State.setReportFlag, State.setPort_port_self]
    exact hmode
  rw [State.raise, flagged, State.classTwoAction, hc]
  exact if_pos ⟨by rw [State.takeClaim_classMap]; exact hclass, hmode⟩

end

/-- R74, R79: what a raised fault leaves alone is what the ports, the fault unit, the latches and the counts leave alone. -/
theorem State.raise_frame {α : Type} {f : State → α} (hport : ∀ s p x, f (State.setPort s p x) = f s)
    (hclaim : ∀ s c, f (State.takeClaim s c) = f s) (hlatch : ∀ s p, f (State.setSuspendLatch s p) = f s)
    (hunits : ∀ s p items, f (State.unitsEnded s p items .aborted) = f s) (s : State) (c : Claim) :
    f (s.raise c) = f s := by
  have flagged : f (s.flagClaim c) = f s := by
    rw [State.flagClaim]
    split
    · rfl
    · exact hport s _ _
  have acted (u : State) : f (u.classTwoAction c) = f u := by
    rw [State.classTwoAction]
    split
    · rfl
    · split
      · rw [State.raiseSuspended, hclaim, State.setReportFlag, hport, hlatch, State.enterSuspended_eq, hport, hunits]
      · rfl
  rw [State.raise, acted, hclaim, flagged]

/-- R74, R79: the SUSPENDED flag is flag 13. -/
theorem withReportFlag_suspended (flags : BitVec 16) : withReportFlag flags .suspended = flags ||| 0x2000 :=
  congrArg (flags ||| ·) (by decide)

/-- Settles O50: the class of the kind and the mode of the port decide what the fault does beyond its claim. -/
theorem raisedFaultFlagsAndSuspends : Obligations.RaisedFaultFlagsAndSuspends := by
  intro s p kind stream walk packet
  refine ⟨rfl, ?_⟩
  intro c flagged taken
  have hport : taken.port p = { s.port p with reportFlags := withReportFlag (s.port p).reportFlags kind } := by
    rw [State.port_of_ports (State.takeClaim_ports _ c)]
    exact State.setPort_port_self _ _ _
  have hqueue : (taken.port p).queue = (s.port p).queue := by rw [hport]
  have suspends (hclass : s.faults.classMap.get kind.number = .class2) (hmode : (s.port p).mode = .running) :
      s.raise c = ((taken.enterSuspended p).setSuspendLatch p).raiseSuspended p :=
    State.raise_suspending rfl hclass hmode
  refine ⟨fun h => State.raise_quiet rfl h, fun hclass hmode hnone => ?_, fun ahead i hclass hmode hq hahead hi => ?_⟩
  · rw [← hqueue] at hnone
    rw [suspends hclass hmode, State.enterSuspended_eq, (filter_not_receiving hnone).2,
      PortState.suspended_of_none hnone, State.raiseSuspended]
    refine congrArg (fun u : State => u.takeClaim (suspendedClaim p)) ?_
    simp only [State.setReportFlag, withReportFlag_suspended]
    simp [State.setPort, State.port, State.setSuspendLatch, State.unitsEnded]
  · rw [← hqueue] at hq
    rw [suspends hclass hmode, State.enterSuspended_eq, PortState.suspended_of_append hq hahead hi, hq,
      (filter_receiving_append hahead hi).2, State.raiseSuspended]
    refine congrArg (fun u : State => u.takeClaim (suspendedClaim p)) ?_
    have hretire : taken.retire = s.retire := flagged.takeClaim_retire c
    have hcontext : taken.context p i.stream = s.context p i.stream :=
      State.context_of_walks (State.takeClaim_walks _ c) p i.stream
    have hburst : (taken.port p).burst = (s.port p).burst := by rw [hport]
    have hskip : (s.port p).burst.map Burst.skipWrite = (s.port p).burst.map fun u =>
        { u with position := u.position.skipWrite } := congrArg (fun f => (s.port p).burst.map f) (funext Burst.skipWrite_eq)
    simp only [State.setReportFlag, withReportFlag_suspended, State.unitsEnded_singleton, hretire, hcontext, hburst, hskip]
    simp only [State.setPort, State.port, State.setSuspendLatch, Bank.get_set_self, Bank.set_set]
    rfl

/-! ### SUSPEND_PORT and RESUME_PORT (R77, R132) -/

/-- R145: outside a RETIRE no unit is counted. -/
theorem State.unitsEnded_of_none {s : State} {p : Port} (h : ∀ t : Stream, (s.context p t).state ≠ .retiring)
    (items : List WorkItem) (how : UnitEnd) : s.unitsEnded p items how = s :=
  foldl_id items fun i _ => if_neg (h i.stream)

/-- R125: a command whose details stand at 0 completes. -/
theorem State.complete_of_command {s : State} {collision : Bool} {v : Word} {args staged : Bank 4 Word} {r : ResultCode}
    (h : s.command = ⟨false, collision, v, args, staged, r, Bank.fill 3 0⟩) (code : ResultCode) :
    s.complete code =
      { s with
        command := { s.command with result := code }
        interrupts := { s.interrupts with cmdDone := true } } := by
  have details : (((Bank.fill 3 (0 : BitVec 8)).set 0 0).set 1 0).set 2 0 = Bank.fill 3 0 := by decide
  simp only [State.complete, State.completeWith, h]
  exact congrArg (fun d => ({ s with
    command := ⟨false, collision, v, args, staged, code, d⟩
    interrupts := { s.interrupts with cmdDone := true } } : State)) details

theorem State.takeCommand_staged (s : State) (v : Word) : (s.takeCommand v).command.staged = s.command.args := rfl

section
variable {s : State} (hs : CommandReady s)
include hs

/-- R124: a command that is answered and changes nothing but the unit ends no drain. -/
theorem settleDrain_complete_takeCommand (v : Word) (code : ResultCode) :
    ((s.takeCommand v).complete code).settleDrain = s.answered v code := by
  rw [State.complete_takeCommand, State.answered_settled hs.1.1.2]

theorem exec_suspendPort_badIndex (h : 4 ≤ argPort s.command.args) :
    exec .suspendPort s = .next (s.answered 0x0041 .badIndex) := by
  rw [exec_suspendPort, busCommand_cmd hs, ← settleDrain_complete_takeCommand hs]
  show Host.Outcome.next (s.takeCommand 0x0041).suspendCommand.settleDrain = _
  rw [State.suspendCommand, State.takeCommand_staged, portOf_eq_none h]

theorem exec_resumePort_badIndex (h : 4 ≤ argPort s.command.args) :
    exec .resumePort s = .next (s.answered 0x0042 .badIndex) := by
  rw [exec_resumePort, busCommand_cmd hs, ← settleDrain_complete_takeCommand hs]
  show Host.Outcome.next (s.takeCommand 0x0042).resumeCommand.settleDrain = _
  rw [State.resumeCommand, State.takeCommand_staged, portOf_eq_none h]

variable {p : Port} (hp : argPort s.command.args = p.val)
include hp

theorem exec_suspendPort_next :
    exec .suspendPort s = .next (((s.takeCommand 0x0041).suspendByCommand p).complete .done).settleDrain := by
  have hport : portOf (argPort s.command.args) = some p := hp ▸ portOf_val p
  rw [exec_suspendPort, busCommand_cmd hs]
  show Host.Outcome.next (s.takeCommand 0x0041).suspendCommand.settleDrain = _
  rw [State.suspendCommand, State.takeCommand_staged, hport]

theorem exec_resumePort_running (hm : (s.port p).mode = .running) :
    exec .resumePort s = .next (s.answered 0x0042 .notSuspended) := by
  have hport : portOf (argPort s.command.args) = some p := hp ▸ portOf_val p
  have hmode : ((s.takeCommand 0x0042).port p).mode = .running := hm
  rw [exec_resumePort, busCommand_cmd hs, ← settleDrain_complete_takeCommand hs]
  show Host.Outcome.next (s.takeCommand 0x0042).resumeCommand.settleDrain = _
  simp only [State.resumeCommand, State.takeCommand_staged, hport, hmode]

/-- R77: only the mode of the port changes, so no drain ends. -/
theorem exec_resumePort_suspended (hm : (s.port p).mode = .suspended) :
    exec .resumePort s = .next ((s.answered 0x0042 .done).setPort p { s.port p with mode := .running }) := by
  have hport : portOf (argPort s.command.args) = some p := hp ▸ portOf_val p
  have hmode : ((s.takeCommand 0x0042).port p).mode = .suspended := hm
  have settled : ((s.answered 0x0042 .done).setPort p { s.port p with mode := .running }).settleDrain = _ :=
    State.settleDrain_of_kept hs.1.1.2 rfl rfl fun q u _ =>
      State.setPort_inFlight (s := s.answered 0x0042 .done) (p := p) (x := { s.port p with mode := .running }) rfl rfl q u
  rw [exec_resumePort, busCommand_cmd hs, ← settled, ← State.complete_takeCommand]
  show Host.Outcome.next (s.takeCommand 0x0042).resumeCommand.settleDrain = _
  simp only [State.resumeCommand, State.takeCommand_staged, hport, hmode]
  simp only [State.complete_takeCommand]
  rfl

end

/-- R132: SUSPEND_PORT on a RUNNING port of a part in which no context is RETIRING. -/
theorem State.suspendByCommand_running {s : State} {p : Port} (hm : (s.port p).mode = .running)
    (hc : ∀ t : Stream, (s.context p t).state ≠ .retiring) :
    s.suspendByCommand p =
      (s.setPort p
        { (s.port p).suspended with reportFlags := (s.port p).reportFlags ||| 0x2000 }).takeClaim (suspendedClaim p) := by
  rw [State.suspendByCommand, if_pos hm, State.enterSuspended_eq, State.unitsEnded_of_none hc, State.raiseSuspended,
    State.setReportFlag, State.setPort_port_self, State.setPort_setPort, withReportFlag_suspended]
  rfl

/-- Settles O38: the port number and the mode decide; the port after a suspension is that of `State.enterSuspended`. -/
theorem suspendAndResumePortResults : Obligations.SuspendAndResumePortResults := by
  refine ⟨fun s hs hidle hnone => ?_, fun s hs => ?_⟩
  · intro a taken completed
    have htaken : s.takeCommand 0x0041 = taken := by
      obtain ⟨-, hbusy⟩ := hs
      simp only [State.takeCommand, hbusy]
      rfl
    refine ⟨exec_suspendPort_badIndex hs, fun p hp => ⟨fun hm => ?_, fun hm => ?_⟩⟩
    · have already : (s.takeCommand 0x0041).suspendByCommand p = s.takeCommand 0x0041 :=
        if_neg fun h => by
          have : Mode.suspended = .running := hm.symm.trans h
          cases this
      rw [exec_suspendPort_next hs hp, already, settleDrain_complete_takeCommand hs]
      rfl
    · have burst : (s.port p).suspended.burst =
          if (s.port p).queue.any fun i => i.isReceiving then
            (s.port p).burst.map fun u => { u with position := u.position.skipWrite }
          else (s.port p).burst := by
        simp only [PortState.suspended, funext Burst.skipWrite_eq]
      have completes (y : PortState) : (((taken.setPort p y).takeClaim (suspendedClaim p)).complete .done).settleDrain =
          completed ((taken.setPort p y).takeClaim (suspendedClaim p)) .done := by
        have hcommand : ((taken.setPort p y).takeClaim (suspendedClaim p)).command = taken.command :=
          State.takeClaim_command _ _
        have hretire : ((taken.setPort p y).takeClaim (suspendedClaim p)).retire = s.retire := State.takeClaim_retire _ _
        rw [State.complete_of_command hcommand]
        exact State.settleDrain_idle ((congrArg RetireEngine.phase hretire).trans hidle)
      rw [exec_suspendPort_next hs hp, htaken, State.suspendByCommand_running (s := taken) hm (hnone p), completes]
      show Host.Outcome.next (completed ((taken.setPort p
        { (s.port p).suspended with
          burst := (s.port p).suspended.burst
          reportFlags := (s.port p).reportFlags ||| 0x2000 }).takeClaim (suspendedClaim p)) .done) = _
      rw [burst]
      rfl
  · intro a taken
    exact ⟨exec_resumePort_badIndex hs, fun p hp => ⟨exec_resumePort_running hs hp, exec_resumePort_suspended hs hp⟩⟩

end Sys2Proof.Machine

/-! PROOFS. The end of a drain, once more: what it leaves is settled, and it commutes with a change of a port that ends no
unit (R144). -/

namespace Sys2Proof.Machine

theorem State.inFlight_of_port {s t : State} {p : Port} (h : t.port p = s.port p) (u : Stream) :
    t.inFlight p u = s.inFlight p u := by
  simp only [State.inFlight, h]

/-- R144: an event that changes one port alone, and no unit of it, ends no drain. -/
theorem State.setPort_settled {s : State} {p : Port} {x : PortState} (hs : DrainSettled s)
    (hq : (x.queue.map fun i => i.stream) = (s.port p).queue.map fun i => i.stream)
    (hb : (x.builder.current.map fun r => r.stream) = (s.port p).builder.current.map fun r => r.stream) :
    (s.setPort p x).settleDrain = s.setPort p x :=
  State.settleDrain_of_kept hs rfl rfl fun q u _ => State.setPort_inFlight hq hb q u

theorem State.drainedContext_congr {s t : State} (hc : t.contexts = s.contexts)
    (hi : ∀ p u, t.inFlight p u = s.inFlight p u) : t.drainedContext = s.drainedContext := by
  have hcontext (p : Port) (u : Stream) : t.context p u = s.context p u := by simp only [State.context, hc]
  funext p u
  unfold State.drainedContext
  rw [hcontext, hi]

/-- R144: the drain ends as well after a change of a port that ends no unit. -/
theorem State.settleDrain_setPort {s : State} {p : Port} {x : PortState}
    (hi : ∀ q u, (s.setPort p x).inFlight q u = s.inFlight q u) :
    (s.setPort p x).settleDrain = s.settleDrain.setPort p x := by
  have drained : (s.setPort p x).withContexts (s.setPort p x).drainedContext =
      (s.withContexts s.drainedContext).setPort p x := by
    rw [State.drainedContext_congr (s := s) (t := s.setPort p x) rfl hi]
    rfl
  cases hd : s.retire.phase with
  | idle => rw [State.settleDrain_idle hd, State.settleDrain_idle (s := s.setPort p x) hd]
  | draining =>
    have hunits (q : Port) (u : Stream) :
        ((s.setPort p x).context q u).state = .retiring ∧ (s.setPort p x).inFlight q u ≠ 0 ↔
          (s.context q u).state = .retiring ∧ s.inFlight q u ≠ 0 := by
      rw [hi]
      rfl
    by_cases h : ∃ (q : Port) (u : Stream), (s.context q u).state = .retiring ∧ s.inFlight q u ≠ 0
    · rw [State.settleDrain_of_unit hd h, State.settleDrain_of_unit (s := s.setPort p x) hd, drained]
      simpa only [hunits] using h
    · rw [State.settleDrain_of_no_unit hd, State.settleDrain_of_no_unit (s := s.setPort p x) hd, drained]
      · rfl
      · intro q u hr
        by_contra hn
        exact h ⟨q, u, (hunits q u).mp ⟨hr, hn⟩⟩
      · intro q u hr
        by_contra hn
        exact h ⟨q, u, hr, hn⟩

/-- R144: after the end-of-drain check the state is settled. -/
theorem State.settleDrain_drainSettled (s : State) : DrainSettled s.settleDrain := by
  cases hd : s.retire.phase with
  | idle =>
    rw [State.settleDrain_idle hd]
    intro h
    rw [hd] at h
    cases h
  | draining =>
    by_cases h : ∃ (p : Port) (t : Stream), (s.context p t).state = .retiring ∧ s.inFlight p t ≠ 0
    · rw [State.settleDrain_of_unit hd h]
      obtain ⟨p, t, hunit⟩ := h
      intro _
      simp only [State.withContexts_context, State.drainedContext_retiring]
      exact ⟨⟨p, t, hunit⟩, fun q u hq => hq.2⟩
    · push Not at h
      rw [State.settleDrain_of_no_unit hd h]
      intro hp
      cases hp

theorem State.settleDrain_settleDrain (s : State) : s.settleDrain.settleDrain = s.settleDrain :=
  State.settleDrain_settled s.settleDrain_drainSettled

end Sys2Proof.Machine

/-! PROOFS. The line events of a port: LINE_UP and LINE_DOWN (R70, R71). -/

namespace Sys2Proof.Machine

/-! ### A response that is cut (R117) -/

/-- R145, R146: how many units RETIRING contexts lose with the cut of a response. -/
def State.cutUnits (s : State) (p : Port) : Nat :=
  match (s.port p).builder.current with
  | some r => if (s.port p).link = .responding ∧ (s.context p r.stream).state = .retiring then 1 else 0
  | none => 0

section
variable {s : State} {p : Port}

theorem State.cutResponse_of_not_responding (hl : (s.port p).link ≠ .responding) : s.cutResponse p = s := if_neg hl

theorem State.cutResponse_of_none (hl : (s.port p).link = .responding) (hc : (s.port p).builder.current = none) :
    s.cutResponse p =
      s.setPort p { s.port p with builder := Builder.idle, line := { (s.port p).line with status := .cut } } := by
  rw [State.cutResponse, if_pos hl, hc]

/-- R117, R146: the RETURN being sent goes with its unit, and its outstanding read is no longer wanted. -/
theorem State.cutResponse_of_some {r : CurrentReturn} (hl : (s.port p).link = .responding)
    (hc : (s.port p).builder.current = some r) :
    s.cutResponse p =
      ((s.dropRequestValue p).setPort p
        { s.port p with builder := Builder.idle, line := { (s.port p).line with status := .cut } }).withAborted
        (countOne^[if s.forced p r.stream then 1 else 0] s.retire.aborted) := by
  have counted : (if (s.context p r.stream).state = .retiring then min 255 (s.retire.aborted + 1)
      else s.retire.aborted) = countOne^[if s.forced p r.stream then 1 else 0] s.retire.aborted := by
    simp only [← State.forced_iff]
    split <;> rfl
  rw [State.cutResponse, if_pos hl, hc]
  dsimp only
  rw [State.unitEnded_aborted, counted]
  rfl

/-! ### LINE_DOWN (R71) -/

/-- R71, R146: what follows the cut of a response. -/
theorem State.loseLine_of_cut {u : State} {x : PortState} {n : Nat} (h : s.cutResponse p = (u.setPort p x).withAborted n)
    (hc : u.contexts = s.contexts) :
    s.loseLine p =
      ((u.setPort p
          { x with
            link := .waitSync
            burst := none
            rxTimer := none
            queue := x.queue.filter fun i => !i.isReceiving
            returns := [] }).withAborted
        (countOne^[(x.queue.filter fun i => i.isReceiving && s.forced p i.stream).length] n)).setLineLatch p := by
  have hport : ((u.setPort p x).withAborted n).port p = x := State.setPort_port_self u p x
  have hforced : ((u.setPort p x).withAborted n).forced = s.forced := State.forced_of_contexts hc
  have counted : (x.queue.filter fun i => i.isReceiving).countP (fun i => s.forced p i.stream) =
      (x.queue.filter fun i => i.isReceiving && s.forced p i.stream).length := by
    rw [List.countP_filter, List.countP_eq_length_filter]
    simp only [Bool.and_comm]
  unfold State.loseLine
  rw [h]
  simp only [State.removeReceiving, hport, State.unitsEnded_aborted, hforced, counted]
  show (State.setPort _ _ _).setLineLatch p = _
  simp only [State.setPort_port_self, State.setPort_setPort]
  simp only [State.setPort, State.withAborted, Bank.set_set]

end

/-- R71, R145, R146: LINE_DOWN as one change of the state. -/
theorem State.loseLine_eq {s : State} {p : Port} (ha : s.retire.aborted ≤ 255) :
    s.loseLine p =
      { s with
        arbiter := { s.arbiter with
          portRequests :=
            if (s.port p).link = .responding ∧ (s.port p).builder.current ≠ none then
              s.arbiter.portRequests.set p ((s.request p).map fun r => { r with wanted := false })
            else s.arbiter.portRequests }
        ports := s.ports.set p
          { s.port p with
            link := .waitSync
            burst := none
            rxTimer := none
            queue := (s.port p).queue.filter fun i => !i.isReceiving
            returns := []
            builder := if (s.port p).link = .responding then Builder.idle else (s.port p).builder
            line :=
              if (s.port p).link = .responding then { (s.port p).line with status := .cut } else (s.port p).line }
        retire := { s.retire with
          aborted := min 255 (s.retire.aborted +
            (((s.port p).queue.filter fun i => i.isReceiving && s.forced p i.stream).length + s.cutUnits p)) }
        interrupts := { s.interrupts with line := s.interrupts.line.set p true } } := by
  by_cases hl : (s.port p).link = .responding
  · cases hc : (s.port p).builder.current with
    | none =>
      rw [State.loseLine_of_cut (n := s.retire.aborted) (State.cutResponse_of_none hl hc) rfl, countOne_iterate ha]
      simp only [hl, State.cutUnits, hc]
      rfl
    | some r =>
      rw [State.loseLine_of_cut (State.cutResponse_of_some hl hc) rfl, ← Function.iterate_add_apply, countOne_iterate ha]
      simp only [hl, State.cutUnits, hc, true_and, State.forced_iff]
      rfl
  · have none_cut : s.cutUnits p = 0 := by
      unfold State.cutUnits
      split <;> simp [hl]
    have h := State.cutResponse_of_not_responding hl
    rw [State.loseLine_of_cut (u := s) (x := s.port p) (n := s.retire.aborted) (by rw [h, State.setPort_port_id]; rfl) rfl,
      countOne_iterate ha, none_cut]
    simp only [hl, if_false, false_and]
    rfl

/-- Settles O8: LINE_UP changes one port and its latch; LINE_DOWN is `State.loseLine_eq`. -/
theorem lineUpAndLineDownResults : Obligations.LineUpAndLineDownResults := by
  refine ⟨fun p s hs => ⟨fun hl => ?_, fun hl => ?_⟩, fun p s hs ha => ⟨fun hl => ?_, fun hl => ?_⟩⟩
  · rw [exec_lineUp, operate_next hs.1, State.takeLineUp, if_pos hl]
    exact congrArg _ (State.settleDrain_of_kept hs.2 rfl rfl fun q u _ =>
      State.setPort_inFlight (s := s) (p := p)
        (x := { s.port p with link := .listening, expectation := none, responseCounter := 0 }) rfl rfl q u)
  · rw [exec_lineUp, operate_next hs.1, State.takeLineUp, if_neg hl, State.settleDrain_settled hs.2]
  · have ignored : s.takeLineDown p = s := by
      rcases hl with hl | hl <;> rw [State.takeLineDown, hl]
    rw [exec_lineDown, operate_next hs.1, ignored, State.settleDrain_settled hs.2]
  · intro lost down
    have taken : s.takeLineDown p = s.loseLine p := by
      rcases hl with hl | hl | hl <;> rw [State.takeLineDown, hl]
    have hdown : s.loseLine p = down := State.loseLine_eq ha
    have hexec : exec (.lineDown p) s = .next down.settleDrain := by
      rw [exec_lineDown, operate_next hs.1, taken, hdown]
    refine ⟨hexec, fun hnone => ?_⟩
    have nothing : lost = 0 := by
      have hqueue : ((s.port p).queue.filter fun i => i.isReceiving && (s.context p i.stream).state == .retiring) = [] :=
        List.filter_eq_nil_iff.mpr fun i _ => by simp [hnone]
      have hcut : s.cutUnits p = 0 := by
        unfold State.cutUnits
        split <;> simp [hnone]
      show List.length _ + s.cutUnits p = 0
      rw [hqueue, hcut]
      rfl
    have kept : down = { down with retire := s.retire } := by
      have hcount : min 255 (s.retire.aborted + lost) = s.retire.aborted := by omega
      show ({ down with retire := { s.retire with aborted := min 255 (s.retire.aborted + lost) } } : State) = _
      rw [hcount]
    have settled : down.settleDrain = down := by
      have hretire : down.retire = s.retire := (congrArg State.retire kept).trans rfl
      refine State.settleDrain_of_kept hs.2 hretire rfl fun q u hr => ?_
      have hport : down.port q = s.port q := Bank.get_set_ne _ _ fun e => hnone u (e ▸ hr)
      exact State.inFlight_of_port hport u
    rw [hexec, ← kept, settled]

end Sys2Proof.Machine

/-! PROOFS. The events of a burst: BURST_START, BURST_END, CODE_VIOLATION and the expiry of the receive timer (R43 to R47,
R61, R62). -/

namespace Sys2Proof.Machine

/-! ### The claim of a broken burst (R163) -/

theorem burstClaim_eq (kind : FaultKind) (p : Port) (x : Position) :
    burstClaim kind p x =
      ⟨kind, .port p, x.packetInHand.map headerStream, none, x.packetInHand.map fun d => ⟨headerType d, d⟩⟩ := by
  unfold burstClaim
  cases x.packetInHand <;> rfl

/-- R45: the positions in which a burst ends normally. -/
theorem Position.endsNormally_iff (x : Position) : x.endsNormally = true ↔ x = .header [] ∨ x = .discard := by
  cases x <;> simp [Position.endsNormally]

/-! ### The close of a burst (R44, R46, R47) -/

section
variable {s : State} {p : Port}

theorem State.closeBurst_of_none (h : (s.port p).burst = none) : s.closeBurst p = s := by
  rw [State.closeBurst, h]

theorem State.closeBurst_of_some {b : Burst} (h : (s.port p).burst = some b) :
    s.closeBurst p =
      if b.turnSeen then
        (if b.position.endsNormally ∨ b.broken then (s.removeReceiving p .drained).dropBurst p
          else ((s.removeReceiving p .drained).dropBurst p).raise (burstClaim .burstBroken p b.position)).handTurn p
      else
        if b.position.endsNormally ∨ b.broken then (s.removeReceiving p .drained).dropBurst p
        else ((s.removeReceiving p .drained).dropBurst p).raise (burstClaim .burstBroken p b.position) := by
  rw [State.closeBurst, h]

/-- R44: no burst is open after the close. -/
theorem State.closeBurst_burst (s : State) (p : Port) : ((s.closeBurst p).port p).burst = none := by
  cases h : (s.port p).burst with
  | none => rw [State.closeBurst_of_none h, h]
  | some b =>
    have dropped : (((s.removeReceiving p .drained).dropBurst p).port p).burst.isSome = false := by
      rw [State.dropBurst, State.setPort_port_self]
      rfl
    have raised := State.burst_of_wiring
      (((s.removeReceiving p .drained).dropBurst p).raise_wiring (burstClaim .burstBroken p b.position)) p
    rw [dropped] at raised
    have handed (u : State) : ((u.handTurn p).port p).burst = (u.port p).burst := by
      rw [State.handTurn, State.setPort_port_self]
    rw [← Option.not_isSome_iff_eq_none, Bool.not_eq_true, State.closeBurst_of_some h]
    split
    · rw [handed]
      split
      · exact dropped
      · exact raised
    · split
      · exact dropped
      · exact raised

/-- R47, R73: a TURN that was seen is handed over. -/
theorem State.handTurn_ite (s : State) (p : Port) (turnSeen : Bool) :
    (if turnSeen then s.handTurn p else s) =
      s.setPort p { s.port p with link := if turnSeen then .turnWait else (s.port p).link } := by
  cases turnSeen with
  | true => rfl
  | false => exact (s.setPort_port_id p).symm

end

/-! ### BURST_START -/

theorem State.openBurst_inFlight (s : State) (p : Port) (q : Port) (u : Stream) :
    (s.openBurst p).inFlight q u = s.inFlight q u := by
  unfold State.openBurst
  exact State.setPort_inFlight (by rfl) (by rfl) q u

/-- R144: the opening of a burst leaves the end of a drain to the close before it. -/
theorem State.openBurst_settleDrain (s : State) (p : Port) :
    (s.openBurst p).settleDrain = s.settleDrain.openBurst p := by
  have hport := State.port_of_ports s.settleDrain_ports p
  rw [State.openBurst, State.settleDrain_setPort (s.openBurst_inFlight p), State.openBurst, hport]

/-- Settles O9: the close leaves no open burst, so a second BURST_START opens what the first would have opened. -/
theorem burstStartOpensABurst : Obligations.BurstStartOpensABurst := by
  refine ⟨fun p s hs => ⟨fun hl => ?_, fun hl hb => ?_⟩, fun p s t hs hb ht => ?_⟩
  · rw [exec_burstStart, operate_next hs.1, State.takeBurstStart, if_neg hl, State.settleDrain_settled hs.2]
  · rw [exec_burstStart, operate_next hs.1, State.takeBurstStart, if_pos hl, State.closeBurst_of_none hb]
    dsimp only
    rw [if_pos hl, State.openBurst_settleDrain, State.settleDrain_settled hs.2]
    rfl
  · rw [exec_burstEnd, operate_next hs.1, State.takeBurstEnd] at ht
    cases ht
    split
    · next hl =>
      have hports := State.port_of_ports (s.closeBurst p).settleDrain_ports p
      have hreset : (s.closeBurst p).settleDrain.inReset = false := by
        rw [State.inReset_of_kept (State.settleDrain_kept _), State.inReset_of_kept (s.closeBurst_kept p), hs.1]
      have closed : (s.closeBurst p).settleDrain.closeBurst p = (s.closeBurst p).settleDrain :=
        State.closeBurst_of_none (by rw [hports, State.closeBurst_burst])
      rw [exec_burstStart, exec_burstStart, operate_next hs.1, operate_next hreset, State.takeBurstStart, if_pos hl,
        State.takeBurstStart, closed]
      dsimp only
      rw [hports]
      split
      · rw [State.openBurst_settleDrain, State.openBurst_settleDrain, State.settleDrain_settleDrain]
      · rw [State.settleDrain_settleDrain]
    · rw [State.settleDrain_settled hs.2]

/-! ### BURST_END -/

/-- Settles O10: the position decides whether the close raises BURST_BROKEN. -/
theorem burstEndClosesTheBurst : Obligations.BurstEndClosesTheBurst := by
  intro p s hs
  have hexec : exec (.burstEnd p) s = .next (s.takeBurstEnd p).settleDrain := operate_next hs.1 _
  refine ⟨fun h => ?_, fun b hl hb => ⟨fun hpos hnone => ?_, fun hhead hdiscard hbroken => ?_⟩⟩
  · have ignored : s.takeBurstEnd p = s := by
      unfold State.takeBurstEnd
      split
      · next hl => exact State.closeBurst_of_none (h.resolve_left (not_not_intro hl))
      · rfl
    rw [hexec, ignored, State.settleDrain_settled hs.2]
  · have hends : b.position.endsNormally = true ∨ b.broken = true := .inl ((Position.endsNormally_iff _).mpr hpos)
    rw [hexec, State.takeBurstEnd, if_pos hl, State.closeBurst_of_some hb, if_pos hends, State.handTurn_ite,
      State.removeReceiving_of_none hnone, State.dropBurst, State.setPort_port_self, State.setPort_setPort, ← hl]
    exact congrArg _ (State.setPort_settled hs.2 (by rfl) (by rfl))
  · have hends : ¬ (b.position.endsNormally = true ∨ b.broken = true) := by
      rw [Position.endsNormally_iff, hbroken]
      simp [hhead, hdiscard]
    rw [hexec, State.takeBurstEnd, if_pos hl, State.closeBurst_of_some hb, if_neg hends, State.handTurn_ite, burstClaim_eq]
    rfl

/-! ### CODE_VIOLATION and the receive timer -/

theorem State.takeCodeViolation_of_some {s : State} {p : Port} {b : Burst} (hl : (s.port p).link = .listening)
    (hb : (s.port p).burst = some b) (hd : b.position ≠ .discard) (hbroken : b.broken = false) :
    s.takeCodeViolation p =
      ((s.removeReceiving p .drained).setPort p
        { (s.removeReceiving p .drained).port p with burst := some ⟨.discard, b.turnSeen, true⟩ }).raise
        (burstClaim .burstBroken p b.position) := by
  rw [State.takeCodeViolation, if_pos hl, hb]
  cases hx : b.position with
  | discard => exact absurd hx hd
  | _ => simp [hx, hbroken]

/-- Settles O11: the RECEIVING item goes first, then the burst, then the fault is raised. -/
theorem codeViolationAndTimeoutEndTheBurst : Obligations.CodeViolationAndTimeoutEndTheBurst := by
  refine ⟨fun p s hs => ?_, fun p s hs => ?_⟩
  · have hexec : exec (.codeViolation p) s = .next (s.takeCodeViolation p).settleDrain := operate_next hs.1 _
    have ignored (h : s.takeCodeViolation p = s) : exec (.codeViolation p) s = .next s := by
      rw [hexec, h, State.settleDrain_settled hs.2]
    refine ⟨fun h => ignored ?_, fun b hl hb => ⟨fun hd => ignored ?_, fun hd hbroken => ?_⟩⟩
    · rcases h with h | h
      · exact if_neg h
      · simp [State.takeCodeViolation, h]
    · simp [State.takeCodeViolation, hb, hd]
    · rw [hexec, State.takeCodeViolation_of_some hl hb hd hbroken, burstClaim_eq]
  · have hexec : exec (.receiveTimeout p) s = .next (s.expireReceive p).settleDrain :=
      operate_next hs.1 fun s => s.expireReceive p
    refine ⟨fun ht => ?_, fun n b ht hb => ?_⟩
    · rw [hexec, State.expireReceive, ht, State.settleDrain_settled hs.2]
    · rw [hexec, State.expireReceive, ht, hb]
      dsimp only
      rw [burstClaim_eq]
      rfl

end Sys2Proof.Machine

/-! PROOFS. The bytes of an open burst: the positions of the decoder, the payload and its checksum (R43 to R45, R55, R56,
R63, R87, R91). -/

namespace Sys2Proof.Machine

/-! ### A byte of an open burst -/

section
variable {s : State} {p : Port} {u : Burst}

theorem State.takeByte_of_closed (h : (s.port p).link ≠ .listening ∨ (s.port p).burst = none) (b : Byte) :
    s.takeByte p b = s := by
  unfold State.takeByte
  split
  · next hl => rw [h.resolve_left (not_not_intro hl)]
  · rfl

/-- R43: in LISTENING, inside an open burst, the byte is the decoder's. -/
theorem exec_byte_of_open (hs : s.inReset = false) (hl : (s.port p).link = .listening) (hb : (s.port p).burst = some u)
    (b : Byte) : exec (.byte p b) s = .next (s.takeByteIn p u b).settleDrain := by
  rw [exec_byte, operate_next hs, State.takeByte, if_pos hl, hb]

theorem State.setPosition_of_some (hb : (s.port p).burst = some u) (x : Position) :
    s.setPosition p x = s.setPort p { s.port p with burst := some { u with position := x } } := by
  rw [State.setPosition, hb]
  rfl

/-- R44: a byte that moves the decoder, and the rest of the port without ending a unit, ends no drain. -/
theorem exec_byte_of_moved {x : PortState} {b : Byte} (hs : Operating s) (hl : (s.port p).link = .listening)
    (hb : (s.port p).burst = some u) (h : s.takeByteIn p u b = s.setPort p x)
    (hq : (x.queue.map fun i => i.stream) = (s.port p).queue.map fun i => i.stream)
    (hr : x.builder = (s.port p).builder) : exec (.byte p b) s = .next (s.setPort p x) := by
  rw [exec_byte_of_open hs.1 hl hb, h, State.setPort_settled hs.2 hq (by rw [hr])]

theorem State.takeByteIn_collected {collected : List Byte} (hx : u.position = .header collected)
    (hlt : collected.length < 4) (b : Byte) :
    s.takeByteIn p u b = s.setPosition p (.header (collected ++ [b])) := by
  rw [State.takeByteIn, hx]
  match collected, hlt with
  | [], _ => rfl
  | [_], _ => rfl
  | [_, _], _ => rfl
  | [_, _, _], _ => rfl

/-! ### The payload of a WRITE (R87) -/

/-- R85: items that are not RECEIVING are left by what touches RECEIVING items alone. -/
theorem map_of_not_receiving {queue : List WorkItem} (h : ∀ i ∈ queue, i.isReceiving = false) {f : WorkItem → WorkItem}
    (hf : ∀ i : WorkItem, i.isReceiving = false → f i = i) : queue.map f = queue :=
  (List.map_congr_left fun i hi => hf i (h i hi)).trans queue.map_id

section
variable {ahead : List WorkItem} {i : WorkItem} {r : Nat} (hq : (s.port p).queue = ahead ++ [i])
  (hahead : ∀ j ∈ ahead, j.isReceiving = false) (hi : i.state = .receiving r)
include hq hahead hi

/-- R87: the cell enters the slot of the RECEIVING item, and is counted. -/
theorem State.receiveCell_of_append {k : Fin 2} (hk : i.slot = some k) (v : Word) :
    s.receiveCell p v =
      s.setPort p
        { s.port p with
          slots := (s.port p).slots.set k ((s.port p).slots.get k ++ [v])
          queue := ahead ++ [{ i with state := .receiving (r + 1) }] } := by
  have hreceiving : i.isReceiving = true := by simp [WorkItem.isReceiving, hi]
  have hfind : (s.port p).queue.find? (fun i => i.isReceiving) = some i := by
    rw [hq, List.find?_append, List.find?_eq_none.mpr (by simpa using hahead)]
    simp [hreceiving]
  rw [State.receiveCell, hfind]
  dsimp only
  rw [hq, List.map_append, map_of_not_receiving hahead, List.map_singleton, hi]
  · simp only [hk]
  · intro j hj
    cases hstate : j.state <;> simp_all [WorkItem.isReceiving]

/-- R91: the RECEIVING item becomes READY. -/
theorem State.readyReceiving_of_append :
    s.readyReceiving p = s.setPort p { s.port p with queue := ahead ++ [{ i with state := .ready }] } := by
  rw [State.readyReceiving, hq, List.map_append, map_of_not_receiving hahead, List.map_singleton, hi]
  intro j hj
  cases hstate : j.state <;> simp_all [WorkItem.isReceiving]

end

end

/-- Settles O12: a case per position of the decoder. -/
theorem bytesOfAnOpenBurst : Obligations.BytesOfAnOpenBurst := by
  refine ⟨fun p b s hs => ⟨fun h => ?_, fun u hl hb => ?_⟩, fun p b last s u d taken sum hs hl hb hx => ?_⟩
  · rw [exec_byte, operate_next hs.1, State.takeByte_of_closed h, State.settleDrain_settled hs.2]
  · have moved (x : Position) (h : s.takeByteIn p u b = s.setPosition p x) :
        exec (.byte p b) s = .next (s.setPort p { s.port p with burst := some { u with position := x } }) :=
      exec_byte_of_moved hs hl hb (h.trans (State.setPosition_of_some hb x)) rfl rfl
    refine ⟨fun hx => ?_, fun collected hx hlt => ?_, fun d owed hx => ?_, fun d sum hx => ?_⟩
    · rw [exec_byte_of_open hs.1 hl hb, State.takeByteIn, hx]
      exact congrArg _ (State.settleDrain_settled hs.2)
    · exact moved _ (State.takeByteIn_collected hx hlt b)
    · refine moved _ ?_
      rw [State.takeByteIn, hx]
      simp
    · refine moved _ ?_
      rw [State.takeByteIn, hx]
  · have taking : s.takeByteIn p u b = s.takePayloadByte p d taken last sum b := by rw [State.takeByteIn, hx]
    refine ⟨fun h => ?_, fun ahead i r k htype hodd hq hahead hi hk => ?_⟩
    · refine exec_byte_of_moved hs hl hb ?_ rfl rfl
      have no_cell : ¬ (headerType d = writeCode ∧ (taken + 1) % 2 = 0) := fun hc =>
        h.elim (fun htype => htype hc.1) fun heven => by omega
      rw [taking, State.takePayloadByte, if_neg no_cell]
      exact State.setPosition_of_some hb _
    · refine exec_byte_of_moved hs hl hb ?_ (by simp [hq]) rfl
      have cell : headerType d = writeCode ∧ (taken + 1) % 2 = 0 := ⟨htype, by omega⟩
      rw [taking, State.takePayloadByte, if_pos cell, State.receiveCell_of_append hq hahead hi hk]
      simp only [State.setPosition, State.setPort_port_self, State.setPort_setPort, hb]
      rfl

/-! ### The checksum is compared (R56, R63, R91) -/

/-- Settles O13: the type and the comparison decide; only a mismatch can end a unit or suspend the port. -/
theorem checksumCompared : Obligations.ChecksumCompared := by
  intro p low high s u d sum hs hl hb hx
  have comparing : s.takeByteIn p u high = s.compareSum p d sum (high ++ low) := by rw [State.takeByteIn, hx]; rfl
  refine ⟨fun ahead i r (htype : headerType d = writeCode) hsum hq hahead hi => ?_,
    fun (htype : headerType d = writeCode) hsum => ?_, fun (htype : ¬ headerType d = writeCode) hsum => ?_,
    fun (htype : ¬ headerType d = writeCode) hsum => ?_⟩
  · refine exec_byte_of_moved hs hl hb ?_ (by simp [hq]) rfl
    rw [comparing, State.compareSum, if_pos htype, if_pos hsum, State.readyReceiving_of_append hq hahead hi]
    simp only [State.setPosition, State.setPort_port_self, State.setPort_setPort, hb]
    rfl
  · rw [exec_byte_of_open hs.1 hl hb, comparing, State.compareSum, if_pos htype, if_neg hsum]
    rfl
  · refine exec_byte_of_moved hs hl hb ?_ rfl rfl
    rw [comparing, State.compareSum, if_neg htype, if_pos hsum]
    simp only [State.countAck, State.setPosition, State.setPort_port_self, State.setPort_setPort, hb]
    rfl
  · rw [exec_byte_of_open hs.1 hl hb, comparing, State.compareSum, if_neg htype, if_neg hsum]
    rfl

end Sys2Proof.Machine

/-! PROOFS. Headers: the verdict of the check code, the sequence check, the format checks, and the arrival and delivery of
packets (R52 to R60, R63, R64, R85 to R89). -/

namespace Sys2Proof.Machine

/-! ### A completed header (R52 to R54, R57) -/

/-- R57: a SEQUENCE fault discards nothing; the expectation follows the header in any case. -/
theorem State.checkSequence_eq (s : State) (p : Port) (d : HeaderBits) :
    s.checkSequence p d =
      (let s2 :=
        if (s.port p).expectation = none ∨ (s.port p).expectation = some (headerSequence d) then s
        else s.raise (headerClaim .sequence p d)
       s2.setPort p { s2.port p with expectation := some (headerSequence d + 1) }) := by
  unfold State.checkSequence
  cases h : (s.port p).expectation with
  | none => rfl
  | some e => by_cases he : e = headerSequence d <;> simp [he]

/-- Settles O15: a case per verdict. -/
theorem completedHeaderJudged : Obligations.CompletedHeaderJudged := by
  intro p b0 b1 b2 b3 check s u hs hl hb hx
  have judged : exec (.byte p check) s =
      .next (s.takeHeader p u.turnSeen (b3 ++ b2 ++ b1 ++ b0) check).settleDrain := by
    rw [exec_byte_of_open hs.1 hl hb, State.takeByteIn, hx, ← headerOfBytes]
  refine ⟨fun d hd => ?_, fun d hd => ?_, fun hd => ?_⟩
  · rw [judged, State.takeHeader, hd]
    dsimp only
    rw [State.checkSequence_eq]
    rfl
  · rw [judged, State.takeHeader, hd]
    dsimp only
    rw [State.checkSequence_eq]
    rfl
  · rw [judged, State.takeHeader, hd]
    rfl

/-! ### The format checks (R58) -/

/-- R188: the code of a type a head sends. -/
def PacketType.code : PacketType → Byte
  | .nop => 0x00
  | .start => 0x21
  | .stop => 0x22
  | .read => 0x23
  | .limit => 0x24
  | .turn => 0x2F
  | .write => 0xA1
  | .pad => 0xA2

theorem packetType_code (t : PacketType) : packetType t.code = some t := by cases t <;> rfl

theorem packetType_eq_some {code : Byte} {t : PacketType} : packetType code = some t ↔ code = t.code := by
  refine ⟨fun h => ?_, fun h => h ▸ packetType_code t⟩
  unfold packetType at h
  split_ifs at h with h1 h2 h3 h4 h5 h6 h7 h8 <;> cases h <;> assumption

/-- R58, R188: the codes of the types a head sends. -/
theorem mem_codes_iff (code : Byte) :
    code ∈ ([0x00, 0x21, 0x22, 0x23, 0x24, 0x2F, 0xA1, 0xA2] : List Byte) ↔ ∃ t : PacketType, code = t.code := by
  constructor
  · simp only [List.mem_cons, List.not_mem_nil, or_false]
    rintro (h | h | h | h | h | h | h | h)
    exacts [⟨.nop, h⟩, ⟨.start, h⟩, ⟨.stop, h⟩, ⟨.read, h⟩, ⟨.limit, h⟩, ⟨.turn, h⟩, ⟨.write, h⟩, ⟨.pad, h⟩]
  · rintro ⟨t, rfl⟩
    cases t <;> decide

section
variable {turnSeen : Bool} {d : HeaderBits}

theorem formatCheck_discardBurst
    (h : headerIsLong d = true ∧ ¬ (1 ≤ (headerParameter d).toNat ∧ (headerParameter d).toNat ≤ 1024)) :
    formatCheck turnSeen d = .discardBurst := if_pos h

variable (hlength : ¬ (headerIsLong d = true ∧ ¬ (1 ≤ (headerParameter d).toNat ∧ (headerParameter d).toNat ≤ 1024)))
include hlength

theorem formatCheck_discardPacket
    (h : turnSeen = true ∨ headerReserved d ≠ 0 ∨
      headerType d ∉ ([0x00, 0x21, 0x22, 0x23, 0x24, 0x2F, 0xA1, 0xA2] : List Byte)) :
    formatCheck turnSeen d = .discardPacket := by
  rw [formatCheck, if_neg hlength]
  split
  · rfl
  · next hturn =>
    split
    · rfl
    · next hreserved =>
      have unknown := (h.resolve_left hturn).resolve_left hreserved
      cases ht : packetType (headerType d) with
      | none => rfl
      | some t => exact absurd ((mem_codes_iff _).mpr ⟨t, packetType_eq_some.mp ht⟩) unknown

theorem formatCheck_good {type : PacketType} (hturn : ¬ turnSeen = true) (hreserved : headerReserved d = 0)
    (htype : headerType d = type.code) : formatCheck turnSeen d = .good type := by
  rw [formatCheck, if_neg hlength, if_neg hturn, if_neg (not_not_intro hreserved), packetType_eq_some.mpr htype]

end

/-! ### The port after a fault of its own (R74, R79, R164) -/

section
variable {s : State} {c : Claim} {p : Port} (hc : c.source = .port p)
include hc

theorem State.raise_port_quiet (h : s.faults.classMap.get c.kind.number ≠ .class2 ∨ (s.port p).mode = .suspended) :
    (s.raise c).port p = { s.port p with reportFlags := withReportFlag (s.port p).reportFlags c.kind } := by
  rw [State.raise_quiet hc h, State.port_of_ports (State.takeClaim_ports _ c)]
  exact State.setPort_port_self _ _ _

theorem State.raise_port_suspending (hclass : s.faults.classMap.get c.kind.number = .class2)
    (hmode : (s.port p).mode = .running) :
    (s.raise c).port p =
      { (s.port p).suspended with
        reportFlags := withReportFlag (withReportFlag (s.port p).reportFlags c.kind) .suspended } := by
  have taken : ((s.setReportFlag p c.kind).takeClaim c).port p =
      { s.port p with reportFlags := withReportFlag (s.port p).reportFlags c.kind } :=
    (State.port_of_ports (State.takeClaim_ports _ c) p).trans (State.setPort_port_self _ _ _)
  rw [State.raise_suspending hc hclass hmode, State.enterSuspended_eq, taken, State.raiseSuspended,
    State.port_of_ports (State.takeClaim_ports _ _)]
  simp [State.setReportFlag, State.setSuspendLatch, State.setPort, State.port, PortState.suspended]

/-- R74: a fault that suspends its port leaves it no RECEIVING item. -/
theorem State.not_receiving_of_raise (hrunning : (s.port p).mode = .running)
    (h : ((s.raise c).port p).mode = .suspended) : ∀ i ∈ ((s.raise c).port p).queue, i.isReceiving = false := by
  by_cases hclass : s.faults.classMap.get c.kind.number = .class2
  · rw [State.raise_port_suspending hc hclass hrunning]
    simp [PortState.suspended]
  · rw [State.raise_port_quiet hc (.inl hclass)] at h
    rw [hrunning] at h
    cases h

end

/-! ### The arrival of a work packet (R60, R85 to R89) -/

section
variable {s : State} {p : Port} {kind : ItemKind} {d : HeaderBits}

theorem State.offerPacket_of_rejected {k : FaultKind} (h : s.judgeArrival p kind d = .rejected k) :
    s.offerPacket p kind d =
      (s.raise (s.contextClaim k p (headerStream d) d)).setPosition p (afterRejected d) := by
  rw [State.offerPacket, h]

theorem State.offerPacket_of_appended (h : s.judgeArrival p kind d = .appended) :
    s.offerPacket p kind d =
      (s.appendItem p kind d).setPosition p (if kind = .write then .take d 0 0 sumPreset else .header []) := by
  rw [State.offerPacket, h]

/-- R88, R101: an item is appended where its context is not RETIRING and the queue has room. -/
theorem State.judgeArrival_appended_iff :
    s.judgeArrival p kind d = .appended ↔
      (s.context p (headerStream d)).state ≠ .retiring ∧
        ¬ (kind = .read ∧ ¬ (1 ≤ (headerParameter d).toNat ∧ (headerParameter d).toNat ≤ 1024)) ∧
        ¬ 4 ≤ (s.port p).queue.length ∧
        ¬ (kind = .write ∧ 2 ≤ ((s.port p).queue.filter fun i => i.kind == .write).length) := by
  unfold State.judgeArrival
  split_ifs with hretiring hcount hlength hwrites
  · exact iff_of_false nofun fun ⟨h, _⟩ => h hretiring
  · exact iff_of_false nofun fun ⟨_, h, _⟩ => h hcount
  · exact iff_of_false nofun fun ⟨_, _, h, _⟩ => h hlength
  · exact iff_of_false nofun fun ⟨_, _, _, h⟩ => h hwrites
  · exact iff_of_true rfl ⟨hretiring, hcount, hlength, hwrites⟩

/-- R87, log entry 7: the lower slot is taken unless an item holds it. -/
theorem freeSlot_eq_one {queue : List WorkItem} (h : freeSlot queue = 1) : ∃ i ∈ queue, i.slot = some 0 := by
  unfold freeSlot at h
  split at h
  · next hc => simpa [slotsInUse] using hc
  · cases h

/-- R85, R87: with at most one WRITE in the queue, the slot taken is free. -/
theorem freeSlot_free {queue : List WorkItem} (hwrites : ∀ i ∈ queue, i.kind = .write ↔ i.slot ≠ none)
    (hroom : (queue.filter fun i => i.kind == .write).length < 2) : ∀ i ∈ queue, i.slot ≠ some (freeSlot queue) := by
  intro j hj hslot
  have write {i : WorkItem} {k : Fin 2} (hi : i ∈ queue) (hk : i.slot = some k) :
      i ∈ queue.filter fun i => i.kind == .write := by
    simp [hi, (hwrites i hi).mpr (by simp [hk])]
  by_cases hk : freeSlot queue = 1
  · obtain ⟨i, hi, hzero⟩ := freeSlot_eq_one hk
    have same : i = j := by
      have hi := write hi hzero
      have hj := write hj hslot
      revert hroom hi hj
      generalize queue.filter (fun i => i.kind == .write) = writes
      match writes with
      | [] => simp
      | [x] => simp +contextual
      | _ :: _ :: _ => simp
    rw [← same, hzero, hk] at hslot
    cases hslot
  · refine hk ?_
    have hzero : freeSlot queue = 0 := by omega
    rw [freeSlot, if_pos]
    rw [hzero] at hslot
    simpa [slotsInUse] using ⟨j, hj, hslot⟩

end

/-- Settles O17: the checks of R88 and R101 in order. -/
theorem workPacketArrival : Obligations.WorkPacketArrival := by
  intro p kind d s u hb hlong context length writes rejected
  have skipped : afterRejected d = if kind = .write then .skip d (2 * length + 2) else .header [] := by
    rw [afterRejected, hlong]
    simp [length]
  have refused {k : FaultKind} (h : s.judgeArrival p kind d = .rejected k) : s.offerPacket p kind d = rejected k := by
    rw [State.offerPacket_of_rejected h, skipped]
    rfl
  split
  · next hretiring => exact refused (if_pos hretiring)
  · next hretiring =>
    split
    · next hcount => exact refused ((if_neg hretiring).trans (if_pos hcount))
    · next hcount =>
      split
      · next hroom =>
        refine refused ?_
        rw [State.judgeArrival, if_neg hretiring, if_neg hcount]
        split
        · rfl
        · next hlength => exact if_pos (hroom.resolve_left hlength)
      · next hroom =>
        obtain ⟨hlength, hwrites⟩ := not_or.mp hroom
        have arrived := State.offerPacket_of_appended
          (State.judgeArrival_appended_iff.mpr ⟨hretiring, hcount, hlength, hwrites⟩)
        rw [arrived]
        simp only [State.appendItem, State.setPosition, State.setPort_port_self, State.setPort_setPort, hb]
        split
        · next hwrite =>
          subst hwrite
          refine ⟨freeSlot (s.port p).queue, freeSlot_eq_one, fun hslots => freeSlot_free hslots ?_, rfl⟩
          have : ¬ 2 ≤ writes.length := fun h => hwrites ⟨rfl, h⟩
          exact Nat.lt_of_not_le this
        · next hwrite => simp [newItem, hwrite]

end Sys2Proof.Machine

/-! PROOFS. The delivery of a good header (R57 to R60, R63, R64, R76). -/

namespace Sys2Proof.Machine

/-! ### A RECEIVING item that goes (R69) -/

/-- R145: a unit of a context that is not RETIRING is not counted. -/
theorem State.removeReceiving_of_append {s : State} {p : Port} {ahead : List WorkItem} {i : WorkItem}
    (hq : (s.port p).queue = ahead ++ [i]) (hahead : ∀ j ∈ ahead, j.isReceiving = false) (hi : i.isReceiving = true)
    (hc : (s.context p i.stream).state ≠ .retiring) (how : UnitEnd) :
    s.removeReceiving p how = s.setPort p { s.port p with queue := ahead } := by
  obtain ⟨hkept, hgone⟩ := filter_receiving_append hahead hi
  have uncounted : s.unitsEnded p [i] how = s := if_neg hc
  rw [State.removeReceiving, hq, hkept, hgone, uncounted]

/-! ### A WRITE that its own header's fault has suspended (R57, R76, log entry 11) -/

section
variable {s : State} {p : Port} {d : HeaderBits} {u : Burst} (hb : (s.port p).burst = some u)
  (hlong : headerIsLong d = true)

/-- R60: on a RUNNING port the delivery of a WRITE is its arrival: a rejection that suspends the port leaves nothing to
remove. -/
theorem State.deliverWrite_of_running (hmode : (s.port p).mode = .running) :
    s.deliverWrite p d = s.offerPacket p .write d := by
  rw [State.deliverWrite]
  split
  · next hsuspended =>
    cases ha : s.judgeArrival p .write d with
    | appended =>
      rw [State.offerPacket_of_appended ha, State.setPosition, State.setPort_port_self, State.appendItem,
        State.setPort_port_self] at hsuspended
      rw [hmode] at hsuspended
      cases hsuspended
    | rejected k =>
      rw [State.offerPacket_of_rejected ha] at hsuspended ⊢
      rw [State.setPosition, State.setPort_port_self] at hsuspended
      have gone : ∀ i ∈ (((s.raise (s.contextClaim k p (headerStream d) d)).setPosition p (afterRejected d)).port p).queue,
          i.isReceiving = false := by
        rw [State.setPosition, State.setPort_port_self]
        exact State.not_receiving_of_raise rfl hmode hsuspended
      rw [State.dropReceiving, State.skipReceiving_of_none gone, State.removeReceiving_of_none gone]
  · rfl

variable (hmode : (s.port p).mode = .suspended)
include hmode

/-- R74: a rejected WRITE leaves the queue of a SUSPENDED port, and skips its payload. -/
theorem State.offerPacket_write_rejected {k : FaultKind} (ha : s.judgeArrival p .write d = .rejected k) :
    (s.offerPacket p .write d).port p =
      { s.port p with
        reportFlags := withReportFlag (s.port p).reportFlags k
        burst := (s.port p).burst.map fun u => { u with position := afterRejected d } } := by
  rw [State.offerPacket_of_rejected ha, State.setPosition, State.setPort_port_self, State.raise_port_quiet rfl (.inr hmode)]
  rfl

omit hmode in
theorem State.offerPacket_write_appended (ha : s.judgeArrival p .write d = .appended) :
    s.offerPacket p .write d =
      s.setPort p
        { s.port p with
          burst := (s.port p).burst.map fun u => { u with position := .take d 0 0 sumPreset }
          queue := (s.port p).queue ++ [newItem .write d (s.port p).queue]
          slots := (s.port p).slots.set (freeSlot (s.port p).queue) [] } := by
  rw [State.offerPacket_of_appended ha, State.setPosition, State.appendItem, State.setPort_port_self, State.setPort_setPort]
  rfl

include hb hlong

/-- R45: whether it was appended or rejected, the decoder ends by skipping the payload and the checksum. -/
theorem State.deliverWrite_of_suspended (htype : headerType d = writeCode) :
    s.deliverWrite p d =
      (let s1 := (s.offerPacket p .write d).removeReceiving p .aborted
       s1.setPort p
        { s1.port p with
          burst := some { u with position := .skip d (2 * (headerParameter d).toNat + 2) } }) := by
  have skipping : afterRejected d = .skip d (2 * (headerParameter d).toNat + 2) := if_pos hlong
  rw [State.deliverWrite]
  dsimp only
  cases ha : s.judgeArrival p .write d with
  | appended =>
    have appended : (s.offerPacket p .write d).port p = _ :=
      (congrArg (fun t : State => t.port p) (State.offerPacket_write_appended ha)).trans (State.setPort_port_self _ _ _)
    rw [if_pos (by rw [appended]; exact hmode), State.dropReceiving_eq, appended, hb]
    simp [newItem, WorkItem.isReceiving, Burst.skipWrite, htype]
  | rejected k =>
    have rejected := State.offerPacket_write_rejected hmode ha
    rw [if_pos (by rw [rejected]; exact hmode), State.dropReceiving_eq, rejected, hb, skipping]
    simp [Burst.skipWrite]

/-- R57, log entry 11: with no other item being received, the queue is left as the header found it. -/
theorem State.deliverWrite_keeps_queue (htype : headerType d = writeCode)
    (hnone : ∀ i ∈ (s.port p).queue, i.isReceiving = false) :
    s.deliverWrite p d =
      (let s1 := s.offerPacket p .write d
       s1.setPort p
        { s1.port p with
          queue := (s.port p).queue
          burst := some { u with position := .skip d (2 * (headerParameter d).toNat + 2) } }) := by
  have removed : (s.offerPacket p .write d).removeReceiving p .aborted =
      (s.offerPacket p .write d).setPort p { (s.offerPacket p .write d).port p with queue := (s.port p).queue } := by
    cases ha : s.judgeArrival p .write d with
    | appended =>
      obtain ⟨hcontext, -⟩ := State.judgeArrival_appended_iff.mp ha
      refine State.removeReceiving_of_append (i := newItem .write d (s.port p).queue) ?_ hnone rfl ?_ _
      · rw [State.offerPacket_write_appended ha, State.setPort_port_self]
      · rw [State.context_of_walks (s.offerPacket_walks p .write d)]
        exact hcontext
    | rejected k =>
      have hq : ((s.offerPacket p .write d).port p).queue = (s.port p).queue := by
        rw [State.offerPacket_write_rejected hmode ha]
      rw [State.removeReceiving_of_none (by rw [hq]; exact hnone), ← hq]
      exact (State.setPort_port_id _ p).symm
  rw [State.deliverWrite_of_suspended hb hlong hmode htype]
  dsimp only
  rw [removed, State.setPort_port_self, State.setPort_setPort]

end

/-! ### Delivery by type (R59, R60, R63, R64) -/

section
variable {s : State} {p : Port} {found : Mode} {turnSeen : Bool} {d : HeaderBits}

theorem State.acceptHeader_discardBurst (h : formatCheck turnSeen d = .discardBurst) :
    s.acceptHeader p found turnSeen d = (s.raise (headerClaim .format p d)).setPosition p .discard := by
  rw [State.acceptHeader, h]

theorem State.acceptHeader_discardPacket (h : formatCheck turnSeen d = .discardPacket) :
    s.acceptHeader p found turnSeen d = (s.raise (headerClaim .format p d)).setPosition p (afterRejected d) := by
  rw [State.acceptHeader, h]

theorem State.acceptHeader_good {type : PacketType} (h : formatCheck turnSeen d = .good type) :
    s.acceptHeader p found turnSeen d =
      if found = .suspended ∧ type ≠ .turn then s.setPosition p (afterRejected d) else s.deliver p type d := by
  rw [State.acceptHeader, h]

end

/-- R188: a TURN is known by its code. -/
theorem PacketType.code_eq_turn_iff (t : PacketType) : t.code = 0x2F ↔ t = .turn := by cases t <;> decide

/-- Settles O16: the format checks, the suspension check, then a case per type. -/
theorem goodHeaderDelivered : Obligations.GoodHeaderDelivered := by
  intro p found turnSeen d s u hb length long past moved format
  split
  · next hlength => exact State.acceptHeader_discardBurst (formatCheck_discardBurst hlength)
  next hlength =>
  split
  · next hformat => exact State.acceptHeader_discardPacket (formatCheck_discardPacket hlength hformat)
  next hformat =>
  simp only [not_or, not_not] at hformat
  obtain ⟨hturn, hreserved, hcode⟩ := hformat
  have good {t : PacketType} (ht : headerType d = t.code) :=
    State.acceptHeader_good (s := s) (p := p) (found := found) (formatCheck_good hlength hturn hreserved ht)
  have turn_iff {t : PacketType} (ht : headerType d = t.code) : headerType d = 0x2F ↔ t = .turn :=
    ht ▸ t.code_eq_turn_iff
  split
  · next hsilent =>
    obtain ⟨t, ht⟩ := (mem_codes_iff _).mp hcode
    rw [good ht, if_pos ⟨hsilent.1, fun h => hsilent.2 ((turn_iff ht).mpr h)⟩]
    exact State.setPosition_of_some hb _
  next hsilent =>
  have delivered (t : PacketType) (ht : headerType d = t.code) :
      s.acceptHeader p found turnSeen d = s.deliver p t d := by
    rw [good ht, if_neg fun h => hsilent ⟨h.1, fun hc => h.2 ((turn_iff ht).mp hc)⟩]
  have hwrite_long (ht : headerType d = writeCode) : headerIsLong d = true := by
    rw [headerIsLong, ht]
    decide
  refine ⟨fun ht => ?_, fun ht hlow hhigh => ?_, fun ht hrange => ?_, fun ht => ?_, fun ht => ?_, delivered .start,
    delivered .stop, delivered .read, fun ht hmode => ?_, fun ht hmode => ?_, fun ht hmode hnone => ?_⟩
  · rw [delivered .nop ht, State.deliver, State.countAck, State.setPosition, State.setPort_port_self, State.setPort_setPort,
      hb]
    rfl
  · rw [delivered .limit ht, State.deliver, State.takeLimit, if_pos ⟨hlow, hhigh⟩, State.countAck, State.setPosition]
    simp only [State.setPort_port_self, State.setPort_setPort, hb]
    rfl
  · rw [delivered .limit ht, State.deliver, State.takeLimit, if_neg hrange]
    rfl
  · rw [delivered .turn ht, State.deliver, State.seeTurn, State.setPosition, State.setPort_port_self, State.setPort_setPort,
      hb]
    rfl
  · rw [delivered .pad ht, State.deliver]
    exact State.setPosition_of_some hb _
  · exact (delivered .write ht).trans (State.deliverWrite_of_running hmode)
  · exact (delivered .write ht).trans (State.deliverWrite_of_suspended hb (hwrite_long ht) hmode ht)
  · exact (delivered .write ht).trans (State.deliverWrite_keeps_queue hb (hwrite_long ht) hmode ht hnone)

end Sys2Proof.Machine

/-! PROOFS. One microsecond of the timebase: the receive timers and the drain timer (R61, R62, R136, R147; log entry 5). -/

namespace Sys2Proof.Machine

/-! ### The drain timer is the retire engine's own (R136) -/

theorem State.unitsEnded_timer (s : State) (p : Port) (items : List WorkItem) (how : UnitEnd) :
    (s.unitsEnded p items how).retire.timer = s.retire.timer := by
  have one (u : State) (t : Stream) : (u.unitEnded p t how).retire.timer = u.retire.timer := by
    unfold State.unitEnded
    split
    · cases how <;> rfl
    · rfl
  induction items generalizing s with
  | nil => rfl
  | cons i rest ih => exact (ih _).trans (one s i.stream)

theorem State.removeReceiving_timer (s : State) (p : Port) (how : UnitEnd) :
    (s.removeReceiving p how).retire.timer = s.retire.timer := s.unitsEnded_timer p _ how

theorem State.raise_timer (s : State) (c : Claim) : (s.raise c).retire.timer = s.retire.timer :=
  State.raise_frame (f := fun s => s.retire.timer) (fun _ _ _ => rfl) (fun s c => by rw [s.takeClaim_retire])
    (fun _ _ => rfl) (fun s p items => s.unitsEnded_timer p items .aborted) s c

/-- R144, R147: the end of a drain stops the drain timer. -/
theorem State.settleDrain_timer {s : State} (h : s.retire.timer = none) : s.settleDrain.retire.timer = none := by
  cases hd : s.retire.phase with
  | idle => rw [State.settleDrain_idle hd, h]
  | draining =>
    by_cases hunit : ∃ (p : Port) (t : Stream), (s.context p t).state = .retiring ∧ s.inFlight p t ≠ 0
    · rw [State.settleDrain_of_unit hd hunit]
      exact h
    · push Not at hunit
      rw [State.settleDrain_of_no_unit hd hunit]
      rfl

/-! ### A timer that is stopped -/

section
variable {s : State} {p : Port}

theorem State.countReceive_of_stopped (h : (s.port p).rxTimer = none) : s.countReceive p = s := by
  have still : timerTick (s.port p).rxTimer = (s.port p).rxTimer := by rw [h]; rfl
  rw [State.countReceive, still]
  exact s.setPort_port_id p

theorem State.tickReceive_of_stopped (h : (s.port p).rxTimer = none) : s.tickReceive p = s := by
  rw [State.tickReceive, State.countReceive_of_stopped h, h]
  exact if_neg nofun

theorem State.tickDrain_of_stopped (h : s.retire.timer = none) : s.tickDrain = s := by
  have still : s.countDrain = s := by
    have : timerTick s.retire.timer = s.retire.timer := by rw [h]; rfl
    rw [State.countDrain, this]
  rw [State.tickDrain, still, h]
  exact if_neg nofun

theorem foldl_tickReceive_of_stopped {ports : List Port} (h : ∀ q ∈ ports, (s.port q).rxTimer = none) :
    ports.foldl State.tickReceive s = s :=
  foldl_id ports fun q hq => State.tickReceive_of_stopped (h q hq)

/-! ### A timer that runs on -/

theorem timerTick_ne_zero {t : Option Nat} (h : ∀ n, t = some n → 2 ≤ n) : timerTick t ≠ some 0 := by
  cases t with
  | none => exact nofun
  | some n =>
    have := h n rfl
    simp only [timerTick, Option.map_some, ne_eq, Option.some.injEq]
    omega

theorem State.tickReceive_of_running (h : ∀ n, (s.port p).rxTimer = some n → 2 ≤ n) :
    s.tickReceive p = s.countReceive p := by
  rw [State.tickReceive, if_neg]
  rw [State.countReceive, State.setPort_port_self]
  exact timerTick_ne_zero h

/-- R61: the receive timers count on, port by port. -/
theorem foldl_tickReceive_of_running (h : ∀ (q : Port) (n : Nat), (s.port q).rxTimer = some n → 2 ≤ n) :
    allPorts.foldl State.tickReceive s =
      { s with ports := Bank.tabulate fun q => { s.port q with rxTimer := timerTick (s.port q).rxTimer } } := by
  have counted (ports : List Port) (hnodup : ports.Nodup) (u : State) (hu : ∀ q ∈ ports, u.port q = s.port q) :
      ports.foldl State.tickReceive u = ports.foldl State.countReceive u := by
    induction ports generalizing u with
    | nil => rfl
    | cons q rest ih =>
      obtain ⟨hq, hrest⟩ := List.nodup_cons.mp hnodup
      have here : u.tickReceive q = u.countReceive q :=
        State.tickReceive_of_running (by rw [hu q List.mem_cons_self]; exact h q)
      rw [List.foldl_cons, List.foldl_cons, here]
      refine ih hrest _ fun r hr => ?_
      rw [State.countReceive, State.setPort_port, if_neg fun hqr : q = r => hq (hqr ▸ hr)]
      exact hu r (List.mem_cons_of_mem q hr)
  rw [counted allPorts (by decide) s fun _ _ => rfl]
  exact foldl_setPort (g := fun _ x => { x with rxTimer := timerTick x.rxTimer }) (fun _ _ => rfl) s

theorem State.tickDrain_of_running (h : ∀ n, s.retire.timer = some n → 2 ≤ n) : s.tickDrain = s.countDrain :=
  if_neg (timerTick_ne_zero h)

/-! ### A timer that runs out -/

/-- R62: the expiry of a receive timer leaves the other receive timers. -/
theorem State.expireReceive_rxTimer {q : Port} (hq : q ≠ p) :
    ((s.expireReceive p).port q).rxTimer = (s.port q).rxTimer := by
  have of_wiring {u v : State} (h : u.wiring = v.wiring) : (u.port q).rxTimer = (v.port q).rxTimer :=
    congrArg Wiring.rxTimer (congrFun h q)
  unfold State.expireReceive
  split
  · rw [of_wiring (State.raise_wiring _ _), State.dropBurst, State.setPort_port, if_neg (Ne.symm hq),
      of_wiring (s.removeReceiving_wiring p _)]
  · rfl

theorem State.expireReceive_timer : (s.expireReceive p).retire.timer = s.retire.timer := by
  unfold State.expireReceive
  split
  · rw [State.raise_timer]
    exact s.removeReceiving_timer p _
  · rfl

end

/-- Settles O2: each timer stops, runs on or runs out in the microsecond. -/
theorem emptyQueueStepIsOneMicrosecond : Obligations.EmptyQueueStepIsOneMicrosecond := by
  have step_idle {s : State} (h : s.pending = []) : step s = .next s.tick := by rw [step, h]
  have tick_operating {s : State} (h : s.inReset = false) :
      s.tick = (allPorts.foldl State.tickReceive s).tickDrain := by rw [State.tick, h]; rfl
  refine ⟨fun s hpending => ⟨fun hreset => ?_, fun hs hreceive hdrain => ?_⟩, fun s hpending hs hreceive hdrain => ?_,
    fun s p hpending hs hp hothers hdrain => ?_⟩
  · rw [step_idle hpending, State.tick, if_pos hreset]
  · rw [step_idle hpending, tick_operating hs, foldl_tickReceive_of_running hreceive, State.tickDrain_of_running]
    · rfl
    · exact hdrain
  · have counted : s.countDrain = { s with retire := { s.retire with timer := some 0 } } := by
      rw [State.countDrain, hdrain]
      rfl
    have expired : ({ s with retire := { s.retire with timer := some 0 } } : State).expireDrain.retire.phase = .idle := by
      cases hphase : s.retire.phase <;> simp [State.expireDrain, hphase, State.completeRetire]
    rw [step_idle hpending, tick_operating hs, foldl_tickReceive_of_stopped fun q _ => hreceive q, State.tickDrain, counted,
      if_pos rfl, exec_drainTimerExpiry, operate_next (by exact hs), State.settleDrain_idle expired]
  · obtain ⟨before, after, hports⟩ := List.append_of_mem (mem_allPorts p)
    have hnodup : (before ++ p :: after).Nodup := hports ▸ (by decide : allPorts.Nodup)
    have hbefore : ∀ q ∈ before, q ≠ p := fun q hq h =>
      (List.nodup_append.mp hnodup).2.2 q hq p List.mem_cons_self h
    have hafter : ∀ q ∈ after, q ≠ p := fun q hq h =>
      (List.nodup_cons.mp (List.nodup_append.mp hnodup).2.1).1 (h ▸ hq)
    have counted : s.countReceive p = s.setPort p { s.port p with rxTimer := some 0 } := by
      rw [State.countReceive, hp]
      rfl
    have expires : s.tickReceive p =
        ((s.setPort p { s.port p with rxTimer := some 0 }).expireReceive p).settleDrain := by
      rw [State.tickReceive, counted, if_pos (by rw [State.setPort_port_self])]
    have others_stopped : ∀ q ∈ after, ((s.tickReceive p).port q).rxTimer = none := fun q hq => by
      rw [expires, State.port_of_ports (State.settleDrain_ports _), State.expireReceive_rxTimer (hafter q hq),
        State.setPort_port, if_neg (Ne.symm (hafter q hq))]
      exact hothers q (hafter q hq)
    have drain_stopped : (s.tickReceive p).retire.timer = none := by
      rw [expires]
      exact State.settleDrain_timer (State.expireReceive_timer.trans hdrain)
    rw [step_idle hpending, tick_operating hs, hports, List.foldl_append, List.foldl_cons,
      foldl_tickReceive_of_stopped fun q hq => hothers q (hbefore q hq), foldl_tickReceive_of_stopped others_stopped,
      State.tickDrain_of_stopped drain_stopped, expires, exec_receiveTimeout, operate_next (by exact hs)]

end Sys2Proof.Machine

/-! PROOFS. The two protections of a packet: the header check code (R51, R52) and the payload checksum (R55). -/

namespace Sys2Proof.Machine

/-! ### The check bits (R51) -/

theorem checkBitsFrom_xor (columns : List (BitVec 7)) (k : Nat) (a b : HeaderBits) :
    checkBitsFrom columns k (a ^^^ b) = checkBitsFrom columns k a ^^^ checkBitsFrom columns k b := by
  induction columns generalizing k with
  | nil => simp [checkBitsFrom]
  | cons c rest ih =>
    have column : (if (a ^^^ b).getLsbD k = true then c else 0) =
        (if a.getLsbD k = true then c else 0) ^^^ if b.getLsbD k = true then c else 0 := by
      rw [BitVec.getLsbD_xor]
      cases a.getLsbD k <;> cases b.getLsbD k <;> simp
    simp only [checkBitsFrom, ih, column]
    ac_rfl

/-- R51: the check bits are linear in the data bits. -/
theorem checkBits_xor (a b : HeaderBits) : checkBits (a ^^^ b) = checkBits a ^^^ checkBits b :=
  checkBitsFrom_xor checkColumns 0 a b

/-! ### The syndromes of one flip (R51, R52) -/

/-- Whether a syndrome has odd weight. -/
def oddWeight (y : BitVec 7) : Bool := (List.range 7).foldr (fun k odd => y.getLsbD k ^^ odd) false

theorem oddWeight_xor (x y : BitVec 7) : oddWeight (x ^^^ y) = (oddWeight x ^^ oddWeight y) := by
  have linear (ks : List Nat) : ks.foldr (fun k odd => (x ^^^ y).getLsbD k ^^ odd) false =
      (ks.foldr (fun k odd => x.getLsbD k ^^ odd) false ^^ ks.foldr (fun k odd => y.getLsbD k ^^ odd) false) := by
    induction ks with
    | nil => rfl
    | cons k ks ih =>
      rw [List.foldr_cons, List.foldr_cons, List.foldr_cons, ih, BitVec.getLsbD_xor, Bool.xor_assoc, Bool.xor_assoc,
        Bool.xor_left_comm (y.getLsbD k)]
  exact linear (List.range 7)

/-- R51, R52: the syndrome of the 32 data bits and the 7 check bits above them. -/
def wordSyndrome (w : BitVec 39) : BitVec 7 := w.extractLsb' 32 7 ^^^ checkBits (w.extractLsb' 0 32)

/-- R52: the values of weight 1. -/
def checkBitValues : List (BitVec 7) := [0x01, 0x02, 0x04, 0x08, 0x10, 0x20, 0x40]

theorem mem_checkBitValues_iff (y : BitVec 7) : y ∈ checkBitValues ↔ ∃ k : Fin 7, y = BitVec.twoPow 7 k.val := by
  have values : checkBitValues = (List.finRange 7).map fun k => BitVec.twoPow 7 k.val := rfl
  simp [values, eq_comm]

/-- The syndromes of one flip, bit 0 first: the columns of the data bits, then the check bits themselves. -/
def flipSyndromes : List (BitVec 7) := checkColumns ++ checkBitValues

/-- R51: the table of the code, evaluated once: what each flip gives, that no two agree, and that each has odd weight. -/
theorem flipSyndromes_table :
    (∀ i : Fin 32, checkColumns[i.val]? = some (checkBits (BitVec.twoPow 32 i.val))) ∧
    (∀ i : Fin 39, flipSyndromes[i.val]? = some (wordSyndrome (BitVec.twoPow 39 i.val))) ∧
    flipSyndromes.Nodup ∧ ∀ c ∈ flipSyndromes, oddWeight c = true := by decide +kernel

/-- R51: one data bit alone gives its column. -/
theorem checkColumns_get (i : Fin 32) : checkColumns[i.val]? = some (checkBits (BitVec.twoPow 32 i.val)) :=
  flipSyndromes_table.1 i

theorem flipSyndromes_get (i : Fin 39) : flipSyndromes[i.val]? = some (wordSyndrome (BitVec.twoPow 39 i.val)) :=
  flipSyndromes_table.2.1 i

theorem flipSyndromes_nodup : flipSyndromes.Nodup := flipSyndromes_table.2.2.1

theorem oddWeight_of_flip {c : BitVec 7} (h : c ∈ flipSyndromes) : oddWeight c = true := flipSyndromes_table.2.2.2 c h

theorem flip_ne_zero {c : BitVec 7} (h : c ∈ flipSyndromes) : c ≠ 0 := by
  rintro rfl
  exact Bool.false_ne_true (oddWeight_of_flip h)

theorem column_is_flip {c : BitVec 7} (h : c ∈ checkColumns) : c ∈ flipSyndromes := List.mem_append_left _ h

theorem twoPow_is_flip (k : Fin 7) : BitVec.twoPow 7 k.val ∈ flipSyndromes :=
  List.mem_append_right _ ((mem_checkBitValues_iff _).mpr ⟨k, rfl⟩)

/-- R52: the values of weight 1 are no columns. -/
theorem twoPow_not_column (k : Fin 7) : BitVec.twoPow 7 k.val ∉ checkColumns := fun h =>
  (List.nodup_append.mp flipSyndromes_nodup).2.2 _ h _ ((mem_checkBitValues_iff _).mpr ⟨k, rfl⟩) rfl

/-! ### The decision of a syndrome (R52) -/

/-- R48: bit 7 of the check byte is ignored. -/
theorem syndrome_eq (d : HeaderBits) (check : Byte) : syndrome d check = check.extractLsb' 0 7 ^^^ checkBits d := by
  rw [syndrome, BitVec.truncate_eq_setWidth, BitVec.setWidth_eq_extractLsb' (by decide)]

/-- R51: no two columns agree, so a column names its data bit. -/
theorem checkColumns_findIdx {i : Nat} {c : BitVec 7} (h : checkColumns[i]? = some c) :
    checkColumns.findIdx? (fun x => x == c) = some i := by
  have nodup : checkColumns.Nodup := (List.nodup_append.mp flipSyndromes_nodup).1
  obtain ⟨hi, rfl⟩ := List.getElem?_eq_some_iff.mp h
  rw [List.findIdx?_eq_some_iff_getElem]
  refine ⟨hi, beq_self_eq_true _, fun j hj => ?_⟩
  rw [beq_eq_false_iff_ne.mpr fun he => hj.ne (nodup.getElem_inj_iff.mp he)]
  exact Bool.false_ne_true

theorem checkColumns_findIdx_of_not_mem {c : BitVec 7} (h : c ∉ checkColumns) :
    checkColumns.findIdx? (fun x => x == c) = none := by
  rw [List.findIdx?_eq_none_iff]
  exact fun x hx => beq_eq_false_iff_ne.mpr fun he => h (he ▸ hx)

section
variable {d : HeaderBits} {check : Byte}

theorem judgeHeader_clean (h : syndrome d check = 0) : judgeHeader d check = .clean d := if_pos h

theorem judgeHeader_column {i : Fin 32} (h : checkColumns[i.val]? = some (syndrome d check)) :
    judgeHeader d check = .corrected (d ^^^ BitVec.twoPow 32 i.val) := by
  rw [judgeHeader, if_neg (flip_ne_zero (column_is_flip (List.mem_of_getElem? h))), checkColumns_findIdx h]

theorem judgeHeader_checkBit {k : Fin 7} (h : syndrome d check = BitVec.twoPow 7 k.val) :
    judgeHeader d check = .corrected d := by
  rw [judgeHeader, h, if_neg (flip_ne_zero (twoPow_is_flip k)), checkColumns_findIdx_of_not_mem (twoPow_not_column k)]
  exact if_pos (List.contains_iff_mem.mpr ((mem_checkBitValues_iff _).mpr ⟨k, rfl⟩))

theorem judgeHeader_uncorrectable (hne : syndrome d check ≠ 0) (hcolumn : syndrome d check ∉ checkColumns)
    (hone : ∀ k : Fin 7, syndrome d check ≠ BitVec.twoPow 7 k.val) : judgeHeader d check = .uncorrectable := by
  rw [judgeHeader, if_neg hne, checkColumns_findIdx_of_not_mem hcolumn]
  refine if_neg fun h => ?_
  obtain ⟨k, hk⟩ := (mem_checkBitValues_iff _).mp (List.contains_iff_mem.mp h)
  exact hone k hk

end

/-! ### The code word of 39 bits -/

theorem wordSyndrome_xor (v w : BitVec 39) : wordSyndrome (v ^^^ w) = wordSyndrome v ^^^ wordSyndrome w := by
  simp only [wordSyndrome, BitVec.extractLsb'_xor, checkBits_xor]
  ac_rfl

theorem extractLsb'_append_low {m n : Nat} (x : BitVec m) (y : BitVec n) : (x ++ y).extractLsb' 0 n = y := by
  ext i hi
  rw [BitVec.getElem_extractLsb', BitVec.getLsbD_append, Nat.zero_add, if_pos hi, BitVec.getLsbD_eq_getElem]

theorem extractLsb'_append_high {m n : Nat} (x : BitVec m) (y : BitVec n) : (x ++ y).extractLsb' n m = x := by
  ext i hi
  rw [BitVec.getElem_extractLsb', BitVec.getLsbD_append, if_neg (by omega), Nat.add_sub_cancel_left,
    BitVec.getLsbD_eq_getElem]

theorem syndrome_of_word (w : BitVec 39) (top : BitVec 1) :
    syndrome (w.extractLsb' 0 32) (top ++ w.extractLsb' 32 7) = wordSyndrome w := by
  rw [syndrome_eq, wordSyndrome]
  exact congrArg (· ^^^ _) (extractLsb'_append_low top (w.extractLsb' 32 7))

theorem data_of_sent (d : HeaderBits) : (checkBits d ++ d : BitVec 39).extractLsb' 0 32 = d :=
  extractLsb'_append_low (checkBits d) d

theorem wordSyndrome_sent (d : HeaderBits) : wordSyndrome (checkBits d ++ d) = 0 := by
  have check : (checkBits d ++ d : BitVec 39).extractLsb' 32 7 = checkBits d := extractLsb'_append_high (checkBits d) d
  rw [wordSyndrome, data_of_sent, check, BitVec.xor_self]
  rfl

/-- R52: two flips of different bits do not cancel. -/
theorem wordSyndrome_flip_inj {i j : Fin 39}
    (h : wordSyndrome (BitVec.twoPow 39 i.val) = wordSyndrome (BitVec.twoPow 39 j.val)) : i = j := by
  have hi := flipSyndromes_get i
  rw [h, ← flipSyndromes_get j] at hi
  have inside : i.val < flipSyndromes.length := i.isLt
  exact Fin.ext ((List.getElem?_inj inside flipSyndromes_nodup).mp hi)

theorem oddWeight_flip (i : Fin 39) : oddWeight (wordSyndrome (BitVec.twoPow 39 i.val)) = true :=
  oddWeight_of_flip (List.mem_of_getElem? (flipSyndromes_get i))

/-- R52: a nonzero syndrome of even weight is neither a column nor of weight 1. -/
theorem judgeHeader_of_even {d : HeaderBits} {check : Byte} (hne : syndrome d check ≠ 0)
    (heven : oddWeight (syndrome d check) = false) : judgeHeader d check = .uncorrectable := by
  refine judgeHeader_uncorrectable hne (fun h => ?_) fun k h => ?_
  · rw [oddWeight_of_flip (column_is_flip h)] at heven
    cases heven
  · rw [h, oddWeight_of_flip (twoPow_is_flip k)] at heven
    cases heven

/-! ### Flips of a sent header -/

section
variable (d : HeaderBits) (top : BitVec 1)

/-- R52: a data bit that flipped is flipped back; a check bit that flipped changes no data. -/
theorem judgeHeader_one_flip (i : Fin 39) :
    judgeHeader (((checkBits d ++ d : BitVec 39) ^^^ BitVec.twoPow 39 i.val).extractLsb' 0 32)
      (top ++ ((checkBits d ++ d : BitVec 39) ^^^ BitVec.twoPow 39 i.val).extractLsb' 32 7) = .corrected d := by
  have hsyndrome : wordSyndrome ((checkBits d ++ d : BitVec 39) ^^^ BitVec.twoPow 39 i.val) =
      wordSyndrome (BitVec.twoPow 39 i.val) := by
    rw [wordSyndrome_xor, wordSyndrome_sent]
    exact BitVec.zero_xor
  rcases Nat.lt_or_ge i.val 32 with hi | hi
  · have hdata : (BitVec.twoPow 39 i.val).extractLsb' 0 32 = BitVec.twoPow 32 i.val := by
      ext k hk
      simp [BitVec.getLsbD_twoPow, BitVec.getElem_twoPow]
      omega
    have hcolumn : checkColumns[i.val]? = some (wordSyndrome (BitVec.twoPow 39 i.val)) := by
      rw [← flipSyndromes_get i, flipSyndromes, List.getElem?_append_left (by exact hi)]
    rw [judgeHeader_column (i := ⟨i.val, hi⟩) (by rw [syndrome_of_word, hsyndrome]; exact hcolumn),
      BitVec.extractLsb'_xor, data_of_sent, hdata, BitVec.xor_assoc, BitVec.xor_self, BitVec.xor_zero]
  · have hdata : (BitVec.twoPow 39 i.val).extractLsb' 0 32 = 0 := by
      ext k hk
      simp [BitVec.getLsbD_twoPow]
      omega
    have hone : wordSyndrome (BitVec.twoPow 39 i.val) ∈ checkBitValues := by
      have := flipSyndromes_get i
      rw [flipSyndromes, List.getElem?_append_right (by exact hi)] at this
      exact List.mem_of_getElem? this
    obtain ⟨k, hk⟩ := (mem_checkBitValues_iff _).mp hone
    rw [judgeHeader_checkBit (k := k) (by rw [syndrome_of_word, hsyndrome, hk]), BitVec.extractLsb'_xor, data_of_sent,
      hdata]
    exact congrArg _ BitVec.xor_zero

/-- R52: two flips leave a nonzero syndrome of even weight. -/
theorem judgeHeader_two_flips {i j : Fin 39} (h : i ≠ j) :
    judgeHeader (((checkBits d ++ d : BitVec 39) ^^^ BitVec.twoPow 39 i.val ^^^ BitVec.twoPow 39 j.val).extractLsb' 0 32)
      (top ++ ((checkBits d ++ d : BitVec 39) ^^^ BitVec.twoPow 39 i.val ^^^ BitVec.twoPow 39 j.val).extractLsb' 32 7) =
      .uncorrectable := by
  have hsyndrome : wordSyndrome ((checkBits d ++ d : BitVec 39) ^^^ BitVec.twoPow 39 i.val ^^^ BitVec.twoPow 39 j.val) =
      wordSyndrome (BitVec.twoPow 39 i.val) ^^^ wordSyndrome (BitVec.twoPow 39 j.val) := by
    rw [wordSyndrome_xor, wordSyndrome_xor, wordSyndrome_sent]
    exact congrArg (· ^^^ _) BitVec.zero_xor
  refine judgeHeader_of_even ?_ ?_
  · rw [syndrome_of_word, hsyndrome]
    exact fun hzero => h (wordSyndrome_flip_inj (BitVec.xor_eq_zero_iff.mp hzero))
  · rw [syndrome_of_word, hsyndrome, oddWeight_xor, oddWeight_flip, oddWeight_flip]
    rfl

end

/-- Settles O14: the code is linear, so a flip adds its own syndrome; the columns and the check bits have odd weight. -/
theorem headerCodeCorrectsOneFlipAndDetectsTwo : Obligations.HeaderCodeCorrectsOneFlipAndDetectsTwo := by
  refine ⟨⟨checkColumns_get, checkBits_xor⟩, fun d check => ?_, fun d top => ?_⟩
  · rw [← syndrome_eq]
    exact ⟨judgeHeader_clean, fun i h => judgeHeader_column h, fun k h => judgeHeader_checkBit h,
      judgeHeader_uncorrectable⟩
  · refine ⟨?_, judgeHeader_one_flip d top, fun i j h => judgeHeader_two_flips d top h⟩
    have clean := judgeHeader_clean ((syndrome_of_word (checkBits d ++ d) top).trans (wordSyndrome_sent d))
    rw [data_of_sent] at clean
    dsimp only
    rw [data_of_sent]
    exact clean

/-! ### The checksum register (R55) -/

/-- R55: the exclusive OR with $A001 sets the top bit, which the shift has cleared; so a register below $8000 tells what
it came from. -/
theorem sumBit_eq_iff {r x : Word} {b : Bool} (hx : x.toNat < 2 ^ 15) :
    sumBit r b = x ↔ r.toNat = 2 * x.toNat + b.toNat := by
  have bit0 : (r.getLsbD 0).toNat = r.toNat % 2 := by rw [BitVec.getLsbD, Nat.toNat_testBit, pow_zero, Nat.div_one]
  have shifted : (r >>> 1).toNat = r.toNat / 2 := by rw [BitVec.toNat_ushiftRight, Nat.shiftRight_eq_div_pow, pow_one]
  unfold sumBit
  split
  · next hfeedback =>
    have top : ((r >>> 1) ^^^ 0xA001#16).msb = true := by
      have constant : (0xA001#16).msb = true := by decide
      rw [BitVec.msb_xor, BitVec.msb_ushiftRight, constant]
      rfl
    have differ : (r.getLsbD 0).toNat ≠ b.toNat := by
      cases hr : r.getLsbD 0 <;> cases b <;> simp_all
    have bit : b.toNat ≤ 1 := b.toNat_le
    refine iff_of_false (fun h => ?_) fun h => by omega
    have large : 2 ^ 15 ≤ x.toNat := by
      rw [← h]
      exact of_decide_eq_true ((BitVec.msb_eq_decide _).symm.trans top)
    omega
  · next hfeedback =>
    have same : (r.getLsbD 0).toNat = b.toNat := by
      cases hr : r.getLsbD 0 <;> cases b <;> simp_all
    rw [← BitVec.toNat_inj, shifted]
    omega

/-- The number that bits spell, the lowest first. -/
def bitsValue (bits : List Bool) : Nat := bits.foldr (fun b n => b.toNat + 2 * n) 0

theorem bitsValue_lt (bits : List Bool) : bitsValue bits < 2 ^ bits.length := by
  induction bits with
  | nil => exact Nat.one_pos
  | cons b rest ih =>
    have : b.toNat ≤ 1 := b.toNat_le
    simp only [bitsValue, List.foldr_cons, List.length_cons, pow_succ] at ih ⊢
    omega

/-- R55: bits shifted into the register leave what stood above them. -/
theorem foldl_sumBit_eq_iff {bits : List Bool} {r x : Word} (hx : (x.toNat + 1) * 2 ^ bits.length ≤ 2 ^ 16) :
    bits.foldl sumBit r = x ↔ r.toNat = x.toNat * 2 ^ bits.length + bitsValue bits := by
  induction bits generalizing r with
  | nil => simp [bitsValue, ← BitVec.toNat_inj]
  | cons b rest ih =>
    have value := bitsValue_lt rest
    rw [List.length_cons, pow_succ, ← mul_assoc, add_mul] at hx
    have word : (BitVec.ofNat 16 (x.toNat * 2 ^ rest.length + bitsValue rest)).toNat =
        x.toNat * 2 ^ rest.length + bitsValue rest := Nat.mod_eq_of_lt (by omega)
    have spelled : bitsValue (b :: rest) = b.toNat + 2 * bitsValue rest := rfl
    rw [List.foldl_cons, ih (by rw [add_mul]; omega), ← word, BitVec.toNat_inj, sumBit_eq_iff (by omega), word, spelled,
      List.length_cons, pow_succ, ← mul_assoc]
    omega

theorem bitsValue_byte (b : Byte) : bitsValue ((List.range 8).map b.getLsbD) = b.toNat := by
  have bit (k : Nat) : (b.getLsbD k).toNat = b.toNat / 2 ^ k % 2 := Nat.toNat_testBit _ _
  simp only [bitsValue, List.range, List.range.loop, List.map_cons, List.map_nil, List.foldr_cons, List.foldr_nil, bit]
  omega

theorem sumByte_eq_foldl (r : Word) (b : Byte) : sumByte r b = ((List.range 8).map b.getLsbD).foldl sumBit r := by
  rw [sumByte, List.foldl_map]

theorem sumByte_eq_iff {r x : Word} {b : Byte} (hx : x.toNat < 256) :
    sumByte r b = x ↔ r.toNat = x.toNat * 256 + b.toNat := by
  have room : (x.toNat + 1) * 2 ^ ((List.range 8).map b.getLsbD).length ≤ 2 ^ 16 := by
    rw [List.length_map, List.length_range]
    omega
  rw [sumByte_eq_foldl, foldl_sumBit_eq_iff room, bitsValue_byte, List.length_map, List.length_range]
  norm_num

/-- R55: the cells of a payload pass one after the other. -/
theorem sumCells_append (cells : List Word) (v : Word) :
    sumCells (cells ++ [v]) = sumByte (sumByte (sumCells cells) (lowByte v)) (highByte v) := by
  rw [sumCells, List.foldl_append]
  rfl

/-- Settles O33: only the register's own value, low byte first, brings it to 0. -/
theorem checksumRegister : Obligations.ChecksumRegister := by
  refine ⟨fun r b => rfl, fun r b => rfl, rfl, sumCells_append, fun cells received => ?_⟩
  have high : (BitVec.setWidth 16 (highByte received)).toNat = (highByte received).toNat :=
    BitVec.toNat_setWidth_of_le (by decide)
  have bytes : received.toNat = (highByte received).toNat * 256 + (lowByte received).toNat := by
    have := received.isLt
    simp only [highByte, lowByte, BitVec.extractLsb'_toNat, Nat.shiftRight_eq_div_pow]
    omega
  have zero : (0 : Word).toNat = 0 := rfl
  calc sumCells (cells ++ [received]) = 0
      ↔ sumByte (sumByte (sumCells cells) (lowByte received)) (highByte received) = 0 := by rw [sumCells_append]
    _ ↔ sumByte (sumCells cells) (lowByte received) = BitVec.setWidth 16 (highByte received) := by
      rw [sumByte_eq_iff (by omega), ← BitVec.toNat_inj, high, zero]
      omega
    _ ↔ (sumCells cells).toNat = received.toNat := by
      rw [sumByte_eq_iff (by have := (highByte received).isLt; omega), high, bytes]
    _ ↔ received = sumCells cells := by rw [BitVec.toNat_inj, eq_comm]

end Sys2Proof.Machine

/-! PROOFS. Responses: the entry taken from the return queue, the end of a RETURN, REPORT, ACK and the end symbol (R65, R80,
R109 to R112, R114 to R116). -/

namespace Sys2Proof.Machine

/-! ### Packets the part sends (R65) -/

/-- R65: the check byte's bit 7 is sent as 0. -/
theorem packetSent_eq (header : HeaderBits) (cells : List Word) (checksum : Option Word) :
    packetSent header cells checksum = ⟨header, 0#1 ++ checkBits header, cells, checksum⟩ := by
  have check : (checkBits header).zeroExtend 8 = 0#1 ++ checkBits header := BitVec.setWidth_eq_append (by decide)
  rw [packetSent, check]

/-! ### The end of a RETURN (R112, R118) -/

/-- Settles O31: the cells that are in the packet decide. -/
theorem returnEndsWithItsChecksum : Obligations.ReturnEndsWithItsChecksum := by
  intro p s hs
  have hexec : exec (.returnEnd p) s = .next (s.endReturn p).settleDrain := by
    rw [exec_returnEnd, operate_next hs.1]
  refine ⟨fun hc => ?_, fun r hc => ⟨fun hlt => ?_, fun hle => ?_⟩⟩
  · rw [hexec, State.endReturn, hc, State.settleDrain_settled hs.2]
  · rw [hexec, State.endReturn, hc]
    dsimp only
    rw [if_pos hlt, State.settleDrain_settled hs.2]
  · rw [hexec, State.endReturn, hc]
    dsimp only
    rw [if_neg (Nat.not_lt.mpr hle), packetSent_eq, State.unitEnded]
    split <;> rfl

/-! ### REPORT, ACK and the end symbol (R114 to R116) -/

/-- R65: REPORT and ACK carry stream 0. -/
theorem State.sendShort_eq (s : State) (p : Port) (type : Byte) (parameter : Word) :
    s.sendShort p type parameter =
      (let header : HeaderBits := parameter ++ (0#3 ++ (s.port p).responseCounter ++ 0#2) ++ type
       s.setPort p
        { s.port p with
          responseCounter := (s.port p).responseCounter + 1
          builder := { (s.port p).builder with packetSent := true, phase := .closing }
          line := { (s.port p).line with
            packets := (s.port p).line.packets ++ [⟨header, 0#1 ++ checkBits header, [], none⟩] } }) := by
  rw [State.sendShort, packetSent_eq]
  rfl

/-- R144: a packet without cells ends no unit. -/
theorem State.sendShort_settled {s : State} (hs : DrainSettled s) (p : Port) (type : Byte) (parameter : Word) :
    (s.sendShort p type parameter).settleDrain = s.sendShort p type parameter := by
  unfold State.sendShort
  exact State.setPort_settled hs (by rfl) (by rfl)

/-- Settles O32: the phase and the snapshot decide which of the two is sent. -/
theorem reportAckAndEndSymbolAreSent : Obligations.ReportAckAndEndSymbolAreSent := by
  refine ⟨fun p s flags hs hf => ?_, fun p s hs => ?_⟩
  · have report : exec (.reportSent p) s = .next (s.sendReport p).settleDrain := by rw [exec_reportSent, operate_next hs.1]
    have ack : exec (.ackSent p) s = .next (s.sendAck p).settleDrain := by rw [exec_ackSent, operate_next hs.1]
    have still : s.settleDrain = s := State.settleDrain_settled hs.2
    refine ⟨fun hphase => ?_, fun hphase hflags => ?_, fun hphase hflags hsent => ?_⟩
    · have no_report : s.sendReport p = s := by
        unfold State.sendReport
        split
        · next h _ => exact absurd h hphase
        · rfl
      have no_ack : s.sendAck p = s := by
        unfold State.sendAck
        split
        · next h _ => exact absurd h hphase
        · rfl
      rw [report, ack, no_report, no_ack, still]
      exact ⟨rfl, rfl⟩
    · rw [report, ack, State.sendReport, State.sendAck, hphase, hf]
      dsimp only
      rw [if_neg hflags, if_neg fun h => hflags h.1, State.sendShort_settled hs.2, State.sendShort_eq, still]
      exact ⟨rfl, rfl⟩
    · rw [report, ack, State.sendReport, State.sendAck, hphase, hf]
      dsimp only
      rw [if_pos hflags, if_pos ⟨hflags, hsent⟩, State.sendShort_settled hs.2, State.sendShort_eq, still]
      exact ⟨rfl, rfl⟩
  · have hexec : exec (.endSymbolSent p) s = .next (s.sendEnd p).settleDrain := by
      rw [exec_endSymbolSent, operate_next hs.1]
    refine ⟨fun hphase => ?_, fun flags hphase hf hc => ?_⟩
    · rw [hexec, State.sendEnd, if_neg hphase, State.settleDrain_settled hs.2]
    · rw [hexec, State.sendEnd, if_pos hphase, hf]
      exact congrArg _ (State.setPort_settled hs.2 (by rfl) (by rw [hc]; rfl))

/-! ### The faults of a sizing (R75, R111) -/

theorem State.raise_arbiter (s : State) (c : Claim) : (s.raise c).arbiter = s.arbiter :=
  State.raise_frame (f := State.arbiter) (fun _ _ _ => rfl) (fun s c => by rw [s.takeClaim_eq]; rfl) (fun _ _ => rfl)
    (fun s p items => by rw [State.unitsEnded_aborted]; rfl) s c

theorem State.raise_classMap (s : State) (c : Claim) : (s.raise c).faults.classMap = s.faults.classMap :=
  State.raise_frame (f := fun s => s.faults.classMap) (fun _ _ _ => rfl) State.takeClaim_classMap (fun _ _ => rfl)
    (fun s p items => by rw [State.unitsEnded_aborted]; rfl) s c

theorem State.raiseAll_arbiter (s : State) (cs : List Claim) : (s.raiseAll cs).arbiter = s.arbiter := by
  induction cs generalizing s with
  | nil => rfl
  | cons c cs ih => exact (ih (s.raise c)).trans (s.raise_arbiter c)

section
variable {s : State} {p : Port} {cs : List Claim} (hsource : ∀ c ∈ cs, c.source = .port p)
include hsource

/-- R75: a SUSPENDED port stays so. -/
theorem State.raiseAll_of_suspended (hmode : (s.port p).mode = .suspended) (hreturns : (s.port p).returns = []) :
    ((s.raiseAll cs).port p).mode = .suspended ∧ ((s.raiseAll cs).port p).returns = [] := by
  induction cs generalizing s with
  | nil => exact ⟨hmode, hreturns⟩
  | cons c cs ih =>
    have raised := State.raise_port_quiet (s := s) (hsource c List.mem_cons_self) (.inr hmode)
    exact ih (s := s.raise c) (fun c hc => hsource c (List.mem_cons_of_mem _ hc)) (by rw [raised, hmode])
      (by rw [raised, hreturns])

variable (hmode : (s.port p).mode = .running)
include hmode

/-- R79: no fault of class 2 suspends the port. -/
theorem State.raiseAll_running (h : ∀ c ∈ cs, s.faults.classMap.get c.kind.number ≠ .class2) :
    ((s.raiseAll cs).port p).mode = .running := by
  induction cs generalizing s with
  | nil => exact hmode
  | cons c cs ih =>
    have raised := State.raise_port_quiet (hsource c List.mem_cons_self) (.inl (h c List.mem_cons_self))
    refine ih (s := s.raise c) (fun c hc => hsource c (List.mem_cons_of_mem _ hc)) (by rw [raised, hmode]) fun d hd => ?_
    rw [State.raise_classMap]
    exact h d (List.mem_cons_of_mem _ hd)

/-- R75, R76: one fault of class 2 among them suspends the port and empties its return queue. -/
theorem State.raiseAll_suspended (h : ∃ c ∈ cs, s.faults.classMap.get c.kind.number = .class2) :
    ((s.raiseAll cs).port p).mode = .suspended ∧ ((s.raiseAll cs).port p).returns = [] := by
  induction cs generalizing s with
  | nil =>
    obtain ⟨c, hc, -⟩ := h
    cases hc
  | cons c cs ih =>
    have hrest : ∀ d ∈ cs, d.source = .port p := fun d hd => hsource d (List.mem_cons_of_mem _ hd)
    by_cases hclass : s.faults.classMap.get c.kind.number = .class2
    · have raised := State.raise_port_suspending (hsource c List.mem_cons_self) hclass hmode
      exact State.raiseAll_of_suspended (s := s.raise c) hrest (by rw [raised]; rfl) (by rw [raised]; rfl)
    · have raised := State.raise_port_quiet (hsource c List.mem_cons_self) (.inl hclass)
      refine ih (s := s.raise c) hrest (by rw [raised, hmode]) ?_
      obtain ⟨d, hd, hdclass⟩ := h
      refine ⟨d, (List.mem_cons.mp hd).resolve_left fun he => hclass (he ▸ hdclass), ?_⟩
      rw [State.raise_classMap]
      exact hdclass

end

end Sys2Proof.Machine

/-! PROOFS. The entry taken from the head of the return queue: dropped with its fault, served, or lost to the suspension of
its own sizing (R75, R76, R80, R109 to R112). -/

namespace Sys2Proof.Machine

/-! ### The recheck (R109) -/

/-- R109: what the recheck finds in the context of a bound stream. -/
def HeadContext.entryRefusal (c : HeadContext) : Option FaultKind :=
  match c.state with
  | .empty => some .rights
  | .opened => if c.granted.read then none else some .rights
  | .ended => some .apertureEnd
  | .retiring => some .retired
  | .retired => some .retired

section
variable {s : State} {p : Port} {t : Stream}

theorem State.entryRefusal_of_unbound (h : s.slot p t = none) : s.entryRefusal p t = some .notBound := by
  rw [State.entryRefusal, h]

theorem State.entryRefusal_of_bound (h : s.slot p t ≠ none) : s.entryRefusal p t = (s.context p t).entryRefusal := by
  obtain ⟨b, hb⟩ := Option.ne_none_iff_exists'.mp h
  rw [State.entryRefusal, hb]
  rfl

theorem State.entryRefusal_of_opened {k : Copy} (hslot : s.slot p t ≠ none) (hstate : (s.context p t).state = .opened)
    (hk : (s.context p t).copy = some k) (hread : k.granted.read = true) : s.entryRefusal p t = none := by
  rw [State.entryRefusal_of_bound hslot, HeadContext.entryRefusal, hstate, HeadContext.granted, hk]
  exact if_pos hread

/-- R31: no copy grants nothing. -/
theorem HeadContext.granted_read_eq_false {c : HeadContext} (h : ∀ k : Copy, c.copy = some k → k.granted.read = false) :
    c.granted.read = false := by
  rw [HeadContext.granted]
  cases hk : c.copy with
  | none => rfl
  | some k => exact h k hk

end

/-! ### An entry is taken (R109) -/

section
variable {s : State} {p : Port} {e : ReturnEntry}

theorem State.takeEntry_of_cons {rest : List ReturnEntry} (hphase : (s.port p).builder.phase = .returns)
    (hcurrent : (s.port p).builder.current = none) (hreturns : (s.port p).returns = e :: rest) :
    s.takeEntry p = (s.setPort p { s.port p with returns := rest }).serveEntry p e := by
  rw [State.takeEntry, if_pos ⟨hphase, hcurrent⟩, hreturns]

theorem State.serveEntry_of_refused {kind : FaultKind} (h : s.entryRefusal p e.stream = some kind) :
    s.serveEntry p e = (s.raise (s.contextClaim kind p e.stream e.capture)).endReturnsIfDone p := by
  rw [State.serveEntry, h]

theorem State.serveEntry_of_standing {n : Nat} (h : s.entryRefusal p e.stream = none)
    (hn : (s.context p e.stream).sizeEntry e.count (s.port p).returnLimit = n) :
    s.serveEntry p e = (s.raiseAll (s.sizingClaims p e n)).beginSized p e.stream n := by
  rw [State.serveEntry, h, ← hn]

end

/-! ### The RETURNS phase ends, or a RETURN begins (R80, R112) -/

section
variable {s : State} {p : Port}

/-- R80, R114: the snapshot of a SUSPENDED port has a flag in it, so a REPORT follows. -/
theorem State.endReturns_of_suspended (hmode : (s.port p).mode = .suspended) :
    s.endReturns p =
      s.setPort p
        { s.port p with
          builder := { (s.port p).builder with
            phase := .report
            snapshot := some ((s.port p).reportFlags ||| 0x2000) } } := by
  have snapshot : (s.port p).takeSnapshot = (s.port p).reportFlags ||| 0x2000 := by
    rw [PortState.takeSnapshot, hmode]
    exact withReportFlag_suspended _
  have flagged : ¬ ((s.port p).takeSnapshot = 0 ∧ (s.port p).builder.packetSent = true) := fun h => by
    have bit := congrArg (fun x : BitVec 16 => x.getLsbD 13) (snapshot.symm.trans h.1)
    simp at bit
  rw [State.endReturns, if_neg flagged, snapshot]

/-- R65, R82, R112: a port whose RETURN of `n` cells begins. -/
def PortState.beginning (x : PortState) (t : Stream) (n : Nat) : PortState :=
  { x with
    responseCounter := x.responseCounter + 1
    builder := { x.builder with
      current := some
        ⟨t, n, BitVec.ofNat 16 n ++ (0#3 ++ x.responseCounter ++ BitVec.ofNat 2 t.val) ++ (0xB1 : Byte), [], false⟩
      packetSent := true } }

theorem State.beginReturn_eq (s : State) (p : Port) (t : Stream) (n : Nat) :
    s.beginReturn p t n = (s.setPort p ((s.port p).beginning t n)).continueReturn p := rfl

/-- R189: with a request outstanding the RETURN posts none. -/
theorem State.continueReturn_of_busy {r : Request} (h : s.request p = some r) : s.continueReturn p = s := by
  have no_request (t : Stream) (access : Access) : s.requestFor p t access = none := by rw [State.requestFor, h]
  rw [State.continueReturn]
  split
  · rfl
  · simp [no_request]

theorem State.beginReturn_of_busy {r : Request} (h : s.request p = some r) (t : Stream) (n : Nat) :
    s.beginReturn p t n = s.setPort p ((s.port p).beginning t n) := by
  rw [State.beginReturn_eq]
  exact State.continueReturn_of_busy (by exact h)

/-- R112: the request for the first cell of the RETURN. -/
theorem State.beginReturn_of_free {t : Stream} {n : Nat} {k : Copy} (hr : s.request p = none)
    (hk : (s.context p t).copy = some k) (hc : (s.context p t).cursor < k.geometry.size) (hn : 1 ≤ n) :
    s.beginReturn p t n =
      (s.setPort p ((s.port p).beginning t n)).setRequest p
        (some (requestAt .read (some t) k (s.context p t).cursor)) := by
  have begun : ((s.setPort p ((s.port p).beginning t n)).port p).builder.current = some
      ⟨t, n, BitVec.ofNat 16 n ++ (0#3 ++ (s.port p).responseCounter ++ BitVec.ofNat 2 t.val) ++ (0xB1 : Byte), [],
        false⟩ := by rw [State.setPort_port_self, PortState.beginning]
  rw [State.beginReturn_eq]
  exact State.continueReturn_of_lt begun rfl hn (by exact hr) (by exact hk) (by exact hc)

end

/-! ### The sizing (R111) -/

section
variable {s : State} {p : Port} {e : ReturnEntry} {k : Copy} (hk : (s.context p e.stream).copy = some k)
include hk

theorem State.sizingClaims_of_copy (n : Nat) :
    s.sizingClaims p e n =
      if n < e.count then
        if k.geometry.policy = .stop ∧ n = k.geometry.size - (s.context p e.stream).cursor then
          [s.contextClaim .truncated p e.stream e.capture, s.contextClaim .apertureEnd p e.stream e.capture]
        else [s.contextClaim .truncated p e.stream e.capture]
      else [] := by
  simp only [State.sizingClaims, HeadContext.isStop, HeadContext.remaining, hk, beq_iff_eq]

theorem State.raiseAll_sizingClaims (n : Nat) :
    s.raiseAll (s.sizingClaims p e n) =
      if n < e.count then
        if k.geometry.policy = .stop ∧ n = k.geometry.size - (s.context p e.stream).cursor then
          (s.raise (s.contextClaim .truncated p e.stream e.capture)).raise
            (s.contextClaim .apertureEnd p e.stream e.capture)
        else s.raise (s.contextClaim .truncated p e.stream e.capture)
      else s := by
  rw [State.sizingClaims_of_copy hk]
  split_ifs <;> simp only [State.raiseAll, List.foldl_cons, List.foldl_nil]

/-- R79, R111: whether a fault of the sizing is of class 2. -/
theorem State.sizingClaims_classTwo (n : Nat) :
    (∃ c ∈ s.sizingClaims p e n, s.faults.classMap.get c.kind.number = .class2) ↔
      n < e.count ∧ (s.faults.classMap.get 11 = .class2 ∨
        (k.geometry.policy = .stop ∧ n = k.geometry.size - (s.context p e.stream).cursor) ∧
          s.faults.classMap.get 9 = .class2) := by
  have truncated : (s.contextClaim .truncated p e.stream e.capture).kind.number = 11 := rfl
  have apertureEnd : (s.contextClaim .apertureEnd p e.stream e.capture).kind.number = 9 := rfl
  rw [State.sizingClaims_of_copy hk]
  split
  · next hn =>
    split
    · next hend => simp [hn, hend.1, ← hend.2, truncated, apertureEnd]
    · next hend => simp [hn, hend, truncated]
  · next hn => simp [hn]

theorem State.sizingClaims_source (n : Nat) : ∀ c ∈ s.sizingClaims p e n, c.source = .port p := by
  rw [State.sizingClaims_of_copy hk]
  split
  · split <;> simp [State.contextClaim]
  · simp

end

/-- Settles O30: the recheck drops the entry or lets it stand; the class of the sizing's faults decides whether it is
served. -/
theorem takenEntryIsDroppedOrServed : Obligations.TakenEntryIsDroppedOrServed := by
  refine ⟨fun p s hs hphase hcurrent => ⟨fun hnil => ?_, fun e rest hcons => ?_⟩, ?_⟩
  · have ends : s.takeEntry p = s.endReturnsIfDone p := by
      rw [State.takeEntry, if_pos ⟨hphase, hcurrent⟩, hnil, State.endReturnsIfDone, if_pos ⟨hphase, hcurrent, hnil⟩]
    have settled : (s.endReturns p).settleDrain = s.endReturns p := by
      unfold State.endReturns
      exact State.setPort_settled hs.2 (by rfl) (by rfl)
    rw [exec_returnEntryTake, operate_next hs.1, ends, State.endReturnsIfDone, if_pos ⟨hphase, hcurrent, hnil⟩, settled]
  · intro c dropped
    have drops {kind : FaultKind}
        (h : (s.setPort p { s.port p with returns := rest }).entryRefusal p e.stream = some kind) : dropped kind := by
      show exec (.returnEntryTake p) s = _
      rw [exec_returnEntryTake, operate_next hs.1, State.takeEntry_of_cons hphase hcurrent hcons,
        State.serveEntry_of_refused h]
      rfl
    have drops_bound {kind : FaultKind} (hslot : s.slot p e.stream ≠ none) (h : c.entryRefusal = some kind) :
        dropped kind := drops ((State.entryRefusal_of_bound (by exact hslot)).trans h)
    refine ⟨fun h => drops (State.entryRefusal_of_unbound (by exact h)), fun h hstate => drops_bound h ?_,
      fun h hstate hk => drops_bound h ?_, fun h hstate => drops_bound h ?_, fun h hstate => drops_bound h ?_⟩
    · rw [HeadContext.entryRefusal, hstate]
    · rw [HeadContext.entryRefusal, hstate, HeadContext.granted_read_eq_false hk]
      rfl
    · rw [HeadContext.entryRefusal, hstate]
    · rcases hstate with hstate | hstate <;> rw [HeadContext.entryRefusal, hstate]
  · intro p s e rest k hs hphase hcurrent hcons hmode hslot hstate hk hread hcursor hcount hcount' hlimit hlimit' cursor
      left n atEnd claim s0 s1 s2 suspends
    have hk0 : (s0.context p e.stream).copy = some k := hk
    have hport0 : s0.port p = { s.port p with returns := rest } := State.setPort_port_self _ _ _
    have standing : s0.entryRefusal p e.stream = none := State.entryRefusal_of_opened hslot hstate hk hread
    have sized : (s0.context p e.stream).sizeEntry e.count (s0.port p).returnLimit = n := by
      rw [hport0, HeadContext.sizeEntry, HeadContext.isStop, HeadContext.remaining, hk0]
      cases hp : k.geometry.policy <;> simp [n, hp, left, cursor, s0]
    have claims (kind : FaultKind) : s0.contextClaim kind p e.stream e.capture = claim kind := by
      rw [State.contextClaim, HeadContext.walkPoint, hk0]
      rfl
    have raised : s0.raiseAll (s0.sizingClaims p e n) = s1 := by
      rw [State.raiseAll_sizingClaims hk0, claims, claims]
      rfl
    have taken : exec (.returnEntryTake p) s = .next (s1.beginSized p e.stream n).settleDrain := by
      rw [exec_returnEntryTake, operate_next hs.1, State.takeEntry_of_cons hphase hcurrent hcons,
        State.serveEntry_of_standing standing sized, raised]
    have hsource := State.sizingClaims_source hk0 n
    have hmode0 : (s0.port p).mode = .running := by rw [hport0, hmode]
    have classTwo := State.sizingClaims_classTwo hk0 n
    have hwiring : s1.wiring = s0.wiring := raised ▸ s0.raiseAll_wiring _
    have hbuilder : (s1.port p).builder = (s.port p).builder := by rw [State.builder_of_wiring hwiring, hport0]
    have hcounter : (s1.port p).responseCounter = (s.port p).responseCounter := by
      rw [State.responseCounter_of_wiring hwiring, hport0]
    have hn : 1 ≤ n ∧ n ≤ 512 := by
      have hleft : 1 ≤ left := Nat.sub_pos_of_lt hcursor
      simp only [n]
      split <;> omega
    refine ⟨hn.1, hn.2, fun h => ?_, fun h => ?_⟩
    · obtain ⟨hmode1, hreturns1⟩ := State.raiseAll_suspended hsource hmode0 (classTwo.mpr h)
      rw [raised] at hmode1 hreturns1
      refine ⟨?_, hmode1, hreturns1⟩
      rw [taken, State.beginSized_suspended hmode1, State.endReturnsIfDone, hbuilder, if_pos ⟨hphase, hcurrent, hreturns1⟩,
        State.endReturns_of_suspended hmode1, hbuilder]
    · have hmode1 : (s1.port p).mode = .running :=
        raised ▸ State.raiseAll_running hsource hmode0 fun c hc hclass => h (classTwo.mp ⟨c, hc, hclass⟩)
      have begun : s1.setPort p ((s1.port p).beginning e.stream n) = s2 := by
        rw [PortState.beginning, hbuilder, hcounter]
      have hrequest : s1.request p = s.request p := by
        rw [← raised, State.request, State.raiseAll_arbiter]
        rfl
      have hcontext : s1.context p e.stream = s.context p e.stream := by
        rw [← raised, State.context_of_walks (s0.raiseAll_walks _)]
        rfl
      rw [taken, State.beginSized_running hmode1]
      cases hr : s.request p with
      | some r => rw [State.beginReturn_of_busy (hrequest.trans hr), begun]
      | none =>
        rw [State.beginReturn_of_free (hrequest.trans hr) (by rw [hcontext]; exact hk) (by rw [hcontext]; exact hcursor)
          hn.1, begun, hcontext]
        rfl

end Sys2Proof.Machine

/-! PROOFS. The start of a response and the end of its RETURNS phase (R73, R80, R108, R109, R114, R115). -/

namespace Sys2Proof.Machine

/-- R80, R114: the snapshot, with SUSPENDED while the port is SUSPENDED. -/
theorem PortState.takeSnapshot_eq (x : PortState) :
    x.takeSnapshot =
      match x.mode with
      | .running => x.reportFlags
      | .suspended => x.reportFlags ||| 0x2000 := by
  unfold PortState.takeSnapshot
  cases x.mode with
  | running => rfl
  | suspended => exact withReportFlag_suspended x.reportFlags

section
variable {s : State} {p : Port}

/-- R109: with a RETURN being sent or an entry left the RETURNS phase goes on. -/
theorem State.endReturnsIfDone_of_not
    (h : (s.port p).builder.phase ≠ .returns ∨ (s.port p).builder.current ≠ none ∨ (s.port p).returns ≠ []) :
    s.endReturnsIfDone p = s :=
  if_neg fun ⟨hphase, hcurrent, hreturns⟩ => by
    rcases h with h | h | h
    · exact h hphase
    · exact h hcurrent
    · exact h hreturns

theorem State.endReturnsIfDone_of_done (hphase : (s.port p).builder.phase = .returns)
    (hcurrent : (s.port p).builder.current = none) (hreturns : (s.port p).returns = []) :
    s.endReturnsIfDone p = s.endReturns p := if_pos ⟨hphase, hcurrent, hreturns⟩

/-- R114, R115: a port whose RETURNS phase has ended with a snapshot of the given flags. -/
def PortState.returnsEnded (x : PortState) (flags : BitVec 16) : PortState :=
  { x with
    builder := { x.builder with
      snapshot := some flags
      phase := if flags = 0 ∧ x.builder.packetSent = true then .closing else .report } }

theorem State.endReturns_eq :
    s.endReturns p = s.setPort p ((s.port p).returnsEnded (s.port p).takeSnapshot) := rfl

/-- R73, R108, log entry 16: a port entering RESPONDING; without return entries its RETURNS phase is over at once, with
a snapshot of the given flags. -/
def PortState.responding (x : PortState) (flags : BitVec 16) : PortState :=
  { x with
    link := .responding
    line := ⟨.sending, []⟩
    builder := if x.returns = [] then ⟨.report, none, false, some flags⟩ else ⟨.returns, none, false, none⟩ }

theorem State.startResponse_of_ready (hlink : (s.port p).link = .turnWait) (hqueue : (s.port p).queue = []) :
    s.startResponse p = s.setPort p ((s.port p).responding (s.port p).takeSnapshot) := by
  rw [State.startResponse, if_pos ⟨hlink, hqueue⟩]
  by_cases hreturns : (s.port p).returns = []
  · rw [State.endReturnsIfDone_of_done (by rw [State.setPort_port_self]) (by rw [State.setPort_port_self])
      (by rw [State.setPort_port_self]; exact hreturns), State.endReturns, State.setPort_setPort,
      State.setPort_port_self, PortState.responding, if_pos hreturns]
    simp only [Bool.false_eq_true, and_false, if_false]
    rfl
  · rw [State.endReturnsIfDone_of_not (.inr (.inr (by rw [State.setPort_port_self]; exact hreturns))),
      PortState.responding, if_neg hreturns]

theorem State.startResponse_of_not_ready (h : (s.port p).link ≠ .turnWait ∨ (s.port p).queue ≠ []) :
    s.startResponse p = s := if_neg fun ⟨hlink, hqueue⟩ => h.elim (· hlink) (· hqueue)

end

/-- Settles O29: the link state and the queue decide whether a response starts, the return queue whether its RETURNS
phase is over. -/
theorem responseStartsAndReturnsPhaseEnds : Obligations.ResponseStartsAndReturnsPhaseEnds := by
  refine ⟨fun p s hs => ⟨fun h => ?_, fun hlink hqueue hbuilder => ?_⟩, fun p s => ?_⟩
  · rw [exec_responseStart, operate_next hs.1, State.startResponse_of_not_ready h, State.settleDrain_settled hs.2]
  · have settled (flags : BitVec 16) :
        (s.setPort p ((s.port p).responding flags)).settleDrain = s.setPort p ((s.port p).responding flags) := by
      refine State.setPort_settled hs.2 rfl ?_
      rw [hbuilder, PortState.responding]
      split <;> rfl
    rw [exec_responseStart, operate_next hs.1, State.startResponse_of_ready hlink hqueue, settled]
    exact congrArg (fun flags => Host.Outcome.next (s.setPort p ((s.port p).responding flags)))
      (s.port p).takeSnapshot_eq
  · refine ⟨State.endReturnsIfDone_of_not, fun hphase hcurrent hreturns => ?_⟩
    rw [State.endReturnsIfDone_of_done hphase hcurrent hreturns, State.endReturns_eq]
    exact congrArg (fun flags => s.setPort p ((s.port p).returnsEnded flags)) (s.port p).takeSnapshot_eq

end Sys2Proof.Machine

/-! PROOFS. The ends of in-flight units (R81, R92, R93, R145), and the disable of a port as one change of the state
(R68, R69, R117, R146). -/

namespace Sys2Proof.Machine

/-! ### A finished item and a removed RECEIVING item -/

theorem State.unitEnded_eq (s : State) (p : Port) (t : Stream) (how : UnitEnd) :
    s.unitEnded p t how =
      { s with retire := if (s.context p t).state = .retiring then s.retire.count how else s.retire } := by
  unfold State.unitEnded
  split <;> rfl

/-- R81, R93: the item at the head goes, and counts in the ACK count. -/
theorem State.finishHead_of_cons {s : State} {p : Port} {i : WorkItem} {rest : List WorkItem}
    (hq : (s.port p).queue = i :: rest) :
    s.finishHead p =
      (s.unitEnded p i.stream .drained).setPort p
        { s.port p with queue := rest, ackCount := min 65535 ((s.port p).ackCount + 1) } := by
  have port : (s.unitEnded p i.stream .drained).port p = s.port p := by rw [State.unitEnded_eq]; rfl
  rw [State.finishHead, hq]
  simp only [State.countAck, State.setPort_port_self, State.setPort_setPort, port]

/-- R69, R92: the RECEIVING item at the tail goes, and its unit ends. -/
theorem State.removeReceiving_of_last {s : State} {p : Port} {ahead : List WorkItem} {i : WorkItem}
    (hq : (s.port p).queue = ahead ++ [i]) (hahead : ∀ j ∈ ahead, j.isReceiving = false) (hi : i.isReceiving = true)
    (how : UnitEnd) :
    s.removeReceiving p how = (s.unitEnded p i.stream how).setPort p { s.port p with queue := ahead } := by
  obtain ⟨hkept, hgone⟩ := filter_receiving_append hahead hi
  rw [State.removeReceiving, hq, hkept, hgone]
  rfl

/-! ### The aborted count beside the ports -/

@[simp] theorem State.withAborted_port (s : State) (n : Nat) (p : Port) : (s.withAborted n).port p = s.port p := rfl

theorem State.withAborted_setPort (s : State) (n : Nat) (p : Port) (x : PortState) :
    (s.withAborted n).setPort p x = (s.setPort p x).withAborted n := rfl

@[simp] theorem State.withAborted_withAborted (s : State) (m n : Nat) :
    (s.withAborted m).withAborted n = s.withAborted n := rfl

/-! ### A response that is cut, as one change -/

/-- R3, R117: the outstanding request of a port whose response, if it sends one, is cut. -/
def State.requestAfterCut (s : State) (p : Port) : Option Request :=
  if (s.port p).link = .responding ∧ (s.port p).builder.current ≠ none then
    (s.request p).map fun r => { r with wanted := false }
  else s.request p

/-- R117: a port whose response, if it sends one, is cut. -/
def PortState.cut (x : PortState) : PortState :=
  { x with
    builder := if x.link = .responding then Builder.idle else x.builder
    line := if x.link = .responding then { x.line with status := .cut } else x.line }

theorem State.setRequest_request_id (s : State) (p : Port) : s.setRequest p (s.request p) = s := by
  simp [State.setRequest, State.request]

/-- R117, R146: the cut changes one port and its request, and counts the unit of a RETURN being sent. -/
theorem State.cutResponse_eq (s : State) (p : Port) :
    s.cutResponse p =
      ((s.setRequest p (s.requestAfterCut p)).setPort p (s.port p).cut).withAborted
        (countOne^[s.cutUnits p] s.retire.aborted) := by
  by_cases hl : (s.port p).link = .responding
  · cases hc : (s.port p).builder.current with
    | none =>
      rw [State.cutResponse_of_none hl hc]
      simp only [State.requestAfterCut, State.cutUnits, PortState.cut, hl, hc, ne_eq, not_true_eq_false, and_false,
        if_false, if_true, State.setRequest_request_id]
      rfl
    | some r =>
      rw [State.cutResponse_of_some hl hc]
      simp only [State.requestAfterCut, State.cutUnits, PortState.cut, hl, hc, ne_eq, reduceCtorEq, not_false_eq_true,
        true_and, if_true, State.forced_iff]
      rfl
  · have uncut : s.cutUnits p = 0 := by
      unfold State.cutUnits
      split <;> simp [hl]
    have request : s.requestAfterCut p = s.request p := if_neg fun h => hl h.1
    have port : (s.port p).cut = s.port p := by simp only [PortState.cut, hl, if_false]
    rw [State.cutResponse_of_not_responding hl, uncut, request, port, State.setRequest_request_id,
      State.setPort_port_id]
    rfl

/-! ### The disable of a port (R68) -/

/-- R145: the items that a disable ends are those that were not leaving. -/
def PortState.disableUnits (x : PortState) (f : Stream → Bool) : Nat :=
  x.queue.countP fun i => !i.isLeaving && f i.stream

/-- R68, R69: a disabled port, but for its enable bit; `f` tells the streams whose contexts are RETIRING. -/
def PortState.disabled (x : PortState) (f : Stream → Bool) : PortState :=
  { x.cut with
    link := .off
    burst := none
    rxTimer := none
    queue := x.queue.filterMap fun i => i.cutOff (!i.isLeaving && f i.stream)
    returns := []
    reportFlags := 0
    ackCount := 0 }

/-- R69, R145: every item of a port is removed. -/
theorem State.removeItems_all (s : State) (p : Port) :
    s.removeItems p (fun _ => true) (fun i => !i.isLeaving) =
      (s.withAborted (countOne^[(s.port p).disableUnits (s.forced p)] s.retire.aborted)).setPort p
        { s.port p with
          queue := (s.port p).queue.filterMap fun i => i.cutOff (!i.isLeaving && s.forced p i.stream) } := by
  have counted : ((s.port p).queue.filter fun i => true && !i.isLeaving).countP (fun i => s.forced p i.stream) =
      (s.port p).disableUnits (s.forced p) := by
    rw [List.countP_filter]
    simp only [PortState.disableUnits, Bool.true_and, Bool.and_comm]
  rw [State.removeItems, State.unitsEnded_aborted, counted]
  rfl

/-- R68, R145, R146: the disable changes one port and its request, and counts the units it ends. -/
theorem State.disablePort_eq (s : State) (p : Port) :
    s.disablePort p =
      ((s.setRequest p (s.requestAfterCut p)).setPort p ((s.port p).disabled (s.forced p))).withAborted
        (countOne^[(s.port p).disableUnits (s.forced p) + s.cutUnits p] s.retire.aborted) := by
  unfold State.disablePort
  simp only [State.removeItems_all, State.cutResponse_eq, State.withAborted_setPort, State.withAborted_withAborted,
    State.withAborted_port, State.setPort_port_self, State.setPort_setPort]
  rw [Function.iterate_add_apply]
  rfl

/-- R145: without a RETIRING context on the port no unit is counted. -/
theorem State.disablePort_of_none {s : State} {p : Port} (h : ∀ t : Stream, (s.context p t).state ≠ .retiring) :
    s.disablePort p =
      (s.setRequest p (s.requestAfterCut p)).setPort p ((s.port p).disabled fun _ => false) := by
  have forced : s.forced p = fun _ => false := funext fun t => beq_eq_false_iff_ne.mpr (h t)
  have items : (s.port p).disableUnits (fun _ => false) = 0 := by simp [PortState.disableUnits]
  have uncut : s.cutUnits p = 0 := by
    unfold State.cutUnits
    split <;> simp [h]
  rw [State.disablePort_eq, forced, items, uncut]
  rfl

end Sys2Proof.Machine

/-! PROOFS. The write to CONTROL with SOFT_RESET at 0 (R67, R68, R182): what it does to one port, and to one port alone
in a drain (R145, R146). -/

namespace Sys2Proof.Machine

/-! ### One enable bit -/

/-- R69: what a removal that counts nothing leaves of an item. -/
theorem WorkItem.cutOff_false (i : WorkItem) :
    i.cutOff false =
      match i.state with
      | .receiving _ => none
      | .ready => none
      | .committing c inHand _ counted =>
        if inHand then some { i with state := .committing c true true counted } else none := by
  unfold WorkItem.cutOff
  cases i.state with
  | receiving _ => rfl
  | ready => rfl
  | committing c inHand leaving counted => simp only [Bool.or_false]

/-- R69, R145: an item that was leaving already has been counted where it had to be. -/
theorem WorkItem.cutOff_leaving (i : WorkItem) (retiring : Bool) :
    i.cutOff (!i.isLeaving && retiring) =
      match i.state with
      | .receiving _ => none
      | .ready => none
      | .committing c inHand leaving counted =>
        if inHand then some { i with state := .committing c true true (counted || (!leaving && retiring)) }
        else none := by
  unfold WorkItem.cutOff WorkItem.isLeaving
  cases i.state <;> rfl

section
variable {s : State} {p : Port}

/-- R67: a bit that does not change does nothing. -/
theorem State.writeEnable_same {w : Bool} (h : (s.port p).enabled = w) : s.writeEnable p w = s := by
  unfold State.writeEnable
  cases w <;> rw [h]

theorem State.writeEnable_enables (h : (s.port p).enabled = false) : s.writeEnable p true = s.enablePort p := by
  unfold State.writeEnable
  rw [h]

/-- R68: the disable, with the enable bit. -/
theorem State.writeEnable_of_disable (h : (s.port p).enabled = true) :
    s.writeEnable p false = (s.disablePort p).setPort p { (s.disablePort p).port p with enabled := false } := by
  unfold State.writeEnable
  rw [h]

/-- R68, R145, R146: that, as one change of the port, its request and the aborted count. -/
theorem State.writeEnable_disables (h : (s.port p).enabled = true) :
    s.writeEnable p false =
      ((s.setRequest p (s.requestAfterCut p)).setPort p
        { (s.port p).disabled (s.forced p) with enabled := false }).withAborted
          (countOne^[(s.port p).disableUnits (s.forced p) + s.cutUnits p] s.retire.aborted) := by
  simp only [State.writeEnable_of_disable h, State.disablePort_eq, State.withAborted_setPort,
    State.withAborted_port, State.setPort_port_self, State.setPort_setPort]

end

/-! ### The write cycle -/

/-- R182: a write to CONTROL with SOFT_RESET at 0, from either row. -/
theorem exec_controlWrite {v : Word} {s : State} (hs : BusFree s) (hv : v.getLsbD 8 = false) {c : Instr}
    (hc : c ∈ [Instr.portEnable v, Instr.portDisable v]) : exec c s = .next (s.writeEnables v).settleDrain := by
  obtain ⟨⟨hreset, -⟩, hfree⟩ := hs
  have cycle : busCommand s (.write .control v) = .next (s.writeEnables v).settleDrain := by
    rw [busCommand_next hreset hfree, State.takeCycle, State.writeCycle, State.writeControl, hv]
    rfl
  simp only [List.mem_cons, List.not_mem_nil, or_false] at hc
  obtain rfl | rfl := hc
  · rw [exec_portEnable, cycle]
  · rw [exec_portDisable, cycle]

/-- R67: where the bit of one port alone goes to 0, that port is disabled and nothing else happens. -/
theorem State.writeEnables_disables_one {s : State} {p : Port} {v : Word} (hv : v.getLsbD p.val = false)
    (hothers : ∀ q : Port, q ≠ p → (s.port q).enabled = v.getLsbD q.val) :
    s.writeEnables v = s.writeEnable p false := by
  obtain ⟨before, after, hports⟩ := List.append_of_mem (mem_allPorts p)
  have hnodup : (before ++ p :: after).Nodup := hports ▸ (by decide : allPorts.Nodup)
  obtain ⟨-, hafter, hbefore⟩ := List.nodup_append.mp hnodup
  have kept (q : Port) (hq : q ≠ p) : ((s.writeEnable p false).port q).enabled = (s.port q).enabled := by
    cases h : (s.port p).enabled with
    | false => rw [State.writeEnable_same h]
    | true =>
      rw [State.writeEnable_disables h, State.withAborted_port, State.setPort_port, if_neg hq.symm]
      rfl
  have first : before.foldl (fun s q => s.writeEnable q (v.getLsbD q.val)) s = s :=
    foldl_id before fun q hq =>
      State.writeEnable_same (hothers q fun e => hbefore q hq p List.mem_cons_self e)
  have last : after.foldl (fun s q => s.writeEnable q (v.getLsbD q.val)) (s.writeEnable p false) =
      s.writeEnable p false :=
    foldl_id after fun q hq => by
      have hne : q ≠ p := fun e => (List.nodup_cons.mp hafter).1 (e ▸ hq)
      exact State.writeEnable_same ((kept q hne).trans (hothers q hne))
  rw [State.writeEnables, hports, List.foldl_append, first, List.foldl_cons, hv, last]

/-- Settles O20: an item that ends changes its port and one count; the counts of a disable outlast the end of the
drain. -/
theorem endedUnitsAreCountedOnce : Obligations.EndedUnitsAreCountedOnce := by
  refine ⟨fun p s i rest hq => ?_, fun p s ahead i how hahead => ⟨fun hq => ?_, fun hq hi => ?_⟩, ?_⟩
  · rw [State.finishHead_of_cons hq, State.unitEnded_eq]
    rfl
  · exact State.removeReceiving_of_none (hq ▸ hahead) how
  · rw [State.removeReceiving_of_last hq hahead hi, State.unitEnded_eq]
    cases how <;> rfl
  · intro v p s t hs hreset he hv hothers _ ha hexec
    have written : s.writeEnables v =
        ((s.setRequest p (s.requestAfterCut p)).setPort p
          { (s.port p).disabled (s.forced p) with enabled := false }).withAborted
            (countOne^[(s.port p).disableUnits (s.forced p) + s.cutUnits p] s.retire.aborted) := by
      rw [State.writeEnables_disables_one hv hothers, State.writeEnable_disables he]
    have ht : (s.writeEnables v).settleDrain = t := by
      rw [exec_controlWrite hs hreset (by simp)] at hexec
      exact Host.Outcome.next.inj hexec
    obtain ⟨hdrained, haborted⟩ := (s.writeEnables v).settleDrain_counts
    have hports : t.ports = (s.writeEnables v).ports := ht ▸ State.settleDrain_ports _
    have hport : t.port p = { (s.port p).disabled (s.forced p) with enabled := false } := by
      rw [State.port, hports, written]
      exact State.setPort_port_self _ p _
    rw [ht, written] at hdrained haborted
    refine ⟨?_, hdrained, haborted.trans ?_⟩
    · rw [hport]
      exact List.filterMap_congr fun i _ => i.cutOff_leaving _
    · rw [countOne_iterate ha, PortState.disableUnits, List.countP_eq_length_filter, ← Nat.add_assoc]
      rfl

end Sys2Proof.Machine

/-! PROOFS. RESET_PORT (R78, R124, R125). -/

namespace Sys2Proof.Machine

/-- R78: a port whose cleared state has taken its values. -/
def PortState.cleared (x : PortState) : PortState :=
  { x with
    reportFlags := 0
    returnLimit := 32
    expectation := none
    responseCounter := 0
    ackCount := 0
    mode := .running }

/-- R78: the fault unit with the error counter of a port at 0. -/
def FaultUnit.clearCounter (x : FaultUnit) (p : Port) : FaultUnit :=
  { x with counters := x.counters.set (Source.port p).number ⟨0, false⟩ }

section
variable {s : State} {p : Port}

theorem State.clearPort_eq : s.clearPort p =
    { s.setPort p (s.port p).cleared with faults := s.faults.clearCounter p } := rfl

theorem State.resetOnePort_of_disabled (he : (s.port p).enabled = false) : s.resetOnePort p = s.clearPort p :=
  if_neg (by simp [he])

/-- R68, R78: the disable and the enable after it leave the port in WAIT_SYNC. -/
theorem State.resetOnePort_of_enabled (he : (s.port p).enabled = true)
    (h : ∀ t : Stream, (s.context p t).state ≠ .retiring) :
    s.resetOnePort p =
      { (s.setRequest p (s.requestAfterCut p)).setPort p
          { ((s.port p).disabled fun _ => false).cleared with link := .waitSync } with
        faults := s.faults.clearCounter p } := by
  have enabled : { (s.port p).disabled fun _ => false with enabled := true, link := .waitSync } =
      { (s.port p).disabled fun _ => false with link := .waitSync } := by
    rw [← he]
    rfl
  rw [State.resetOnePort, if_pos he, State.disablePort_of_none h, State.enablePort, State.setPort_port_self,
    State.setPort_setPort, enabled, State.clearPort_eq, State.setPort_port_self, State.setPort_setPort]
  rfl

theorem State.resetOnePort_command : (s.resetOnePort p).command = s.command := by
  unfold State.resetOnePort
  split
  · rw [State.disablePort_eq]
    rfl
  · rfl

/-- R3, R117: the request of a port whose response is cut changes where a RETURN was being sent. -/
theorem State.setRequest_requestAfterCut :
    s.setRequest p (s.requestAfterCut p) =
      { s with
        arbiter := { s.arbiter with
          portRequests :=
            if (s.port p).link = .responding ∧ (s.port p).builder.current ≠ none then
              s.arbiter.portRequests.set p ((s.request p).map fun r => { r with wanted := false })
            else s.arbiter.portRequests } } := by
  unfold State.requestAfterCut
  split
  · rfl
  · exact s.setRequest_request_id p

end

/-- R69: a disabled port with no RETIRING context. -/
theorem PortState.disabled_of_none (x : PortState) :
    (x.disabled fun _ => false) =
      { x.cut with
        link := .off
        burst := none
        rxTimer := none
        queue := x.queue.filterMap fun i =>
          match i.state with
          | .receiving _ => none
          | .ready => none
          | .committing c inHand _ counted =>
            if inHand then some { i with state := .committing c true true counted } else none
        returns := []
        reportFlags := 0
        ackCount := 0 } := by
  have queue : (x.disabled fun _ => false).queue = x.queue.filterMap fun i => i.cutOff false := by
    simp only [PortState.disabled, Bool.and_false]
  show { x.disabled fun _ => false with queue := (x.disabled fun _ => false).queue } = _
  rw [queue, funext WorkItem.cutOff_false]
  rfl

/-- R125: what a taken command completes with does not depend on what it has done to the rest of the part. -/
theorem State.complete_of_taken {s u : State} {v : Word} (h : u.command = (s.takeCommand v).command)
    (code : ResultCode) :
    u.complete code =
      { u with
        command := (s.answered v code).command
        interrupts := { u.interrupts with cmdDone := true } } := by
  rw [← State.complete_takeCommand]
  simp only [State.complete, State.completeWith, h]

section
variable {s : State} (hs : CommandReady s)
include hs

theorem exec_resetPort_badIndex (h : 4 ≤ argPort s.command.args) :
    exec .resetPort s = .next (s.answered 0x0043 .badIndex) := by
  rw [exec_resetPort, busCommand_cmd hs, ← settleDrain_complete_takeCommand hs]
  show Host.Outcome.next (s.takeCommand 0x0043).resetPortCommand.settleDrain = _
  rw [State.resetPortCommand, State.takeCommand_staged, portOf_eq_none h]

/-- R78, R125: with no drain in progress the completion is the last thing. -/
theorem exec_resetPort_next {p : Port} (hp : argPort s.command.args = p.val) (hidle : s.retire.phase = .idle)
    {u : State} (hu : (s.takeCommand 0x0043).resetOnePort p = u) (hretire : u.retire = s.retire) :
    exec .resetPort s = .next
      { u with
        command := (s.answered 0x0043 .done).command
        interrupts := { u.interrupts with cmdDone := true } } := by
  have hport : portOf (argPort s.command.args) = some p := hp ▸ portOf_val p
  have command : u.command = (s.takeCommand 0x0043).command := hu ▸ State.resetOnePort_command
  rw [exec_resetPort, busCommand_cmd hs]
  show Host.Outcome.next (s.takeCommand 0x0043).resetPortCommand.settleDrain = _
  rw [State.resetPortCommand, State.takeCommand_staged, hport]
  show Host.Outcome.next (((s.takeCommand 0x0043).resetOnePort p).complete .done).settleDrain = _
  rw [hu, State.complete_of_taken command]
  exact congrArg _ (State.settleDrain_idle (hretire ▸ hidle))

end

/-- Settles O39: the port number and the enable bit decide. -/
theorem resetPortResult : Obligations.ResetPortResult := by
  intro s hs hidle hnone a taken
  refine ⟨exec_resetPort_badIndex hs, fun p hp => ⟨fun he => ?_, fun he => ?_⟩⟩
  · have reset : (s.takeCommand 0x0043).resetOnePort p = (s.takeCommand 0x0043).clearPort p :=
      State.resetOnePort_of_disabled he
    exact exec_resetPort_next hs hp hidle reset rfl
  · have reset := State.resetOnePort_of_enabled (s := s.takeCommand 0x0043) he (hnone p)
    rw [State.setRequest_requestAfterCut, PortState.disabled_of_none] at reset
    exact exec_resetPort_next hs hp hidle reset rfl

end Sys2Proof.Machine

/-! PROOFS. A write to CONTROL as one change of the four ports and their requests (R67, R68, R182). -/

namespace Sys2Proof.Machine

/-! ### Ports and requests, one after the other -/

/-- The state with every port and every port's request given. -/
def State.withPortsAndRequests (s : State) (ports : Port → PortState) (requests : Port → Option Request) : State :=
  { s with
    arbiter := { s.arbiter with portRequests := Bank.tabulate requests }
    ports := Bank.tabulate ports }

theorem State.withPortsAndRequests_id (s : State) : s.withPortsAndRequests s.port s.request = s := by
  have ports : Bank.tabulate s.port = s.ports := Bank.ext_get fun p => by simp [State.port]
  have requests : Bank.tabulate s.request = s.arbiter.portRequests := Bank.ext_get fun p => by simp [State.request]
  simp only [State.withPortsAndRequests, ports, requests]

theorem State.setRequest_setPort_eq (s : State) (p : Port) (r : Option Request) (x : PortState) :
    (s.setRequest p r).setPort p x =
      s.withPortsAndRequests (fun q => if p = q then x else s.port q) fun q => if p = q then r else s.request q := by
  have ports : s.ports.set p x = Bank.tabulate fun q => if p = q then x else s.port q :=
    Bank.ext_get fun q => by rw [Bank.get_set, Bank.get_tabulate]; rfl
  have requests : s.arbiter.portRequests.set p r = Bank.tabulate fun q => if p = q then r else s.request q :=
    Bank.ext_get fun q => by rw [Bank.get_set, Bank.get_tabulate]; rfl
  simp only [State.setPort, State.setRequest, ports, requests, State.withPortsAndRequests]

/-- An operation that changes a port and its request, in a way that these and the contexts determine, done for each port
of a list, changes the ports of the list. -/
theorem foldl_setRequest_setPort {s : State} {f : State → Port → State} {x : Port → PortState}
    {r : Port → Option Request}
    (hf : ∀ (u : State) (p : Port), u.contexts = s.contexts → u.port p = s.port p → u.request p = s.request p →
      f u p = (u.setRequest p (r p)).setPort p (x p))
    {l : List Port} (hl : l.Nodup) (u : State) (hc : u.contexts = s.contexts) (hp : ∀ p ∈ l, u.port p = s.port p)
    (hr : ∀ p ∈ l, u.request p = s.request p) :
    l.foldl f u =
      u.withPortsAndRequests (fun p => if p ∈ l then x p else u.port p) fun p =>
        if p ∈ l then r p else u.request p := by
  induction l generalizing u with
  | nil => simpa using u.withPortsAndRequests_id.symm
  | cons p l ih =>
    obtain ⟨hnot, hl⟩ := List.nodup_cons.mp hl
    have other {q : Port} (hq : q ∈ l) : p ≠ q := fun e => hnot (e ▸ hq)
    obtain ⟨v, hv⟩ : ∃ v, v = (u.setRequest p (r p)).setPort p (x p) := ⟨_, rfl⟩
    have port (q : Port) : v.port q = if p = q then x p else u.port q := hv ▸ State.setPort_port _ p q (x p)
    have request (q : Port) : v.request q = if p = q then r p else u.request q :=
      hv ▸ State.setRequest_request u p q (r p)
    have first : f u p = v := hv ▸ hf u p hc (hp p List.mem_cons_self) (hr p List.mem_cons_self)
    have rest := ih hl v (hv ▸ hc)
      (fun q hq => by rw [port, if_neg (other hq), hp q (List.mem_cons_of_mem p hq)])
      (fun q hq => by rw [request, if_neg (other hq), hr q (List.mem_cons_of_mem p hq)])
    have ports (q : Port) : (if q ∈ l then x q else v.port q) = if q ∈ p :: l then x q else u.port q := by
      rw [port]
      by_cases h : p = q
      · subst h
        simp [hnot]
      · simp [h, Ne.symm h]
    have requests (q : Port) : (if q ∈ l then r q else v.request q) = if q ∈ p :: l then r q else u.request q := by
      rw [request]
      by_cases h : p = q
      · subst h
        simp [hnot]
      · simp [h, Ne.symm h]
    rw [List.foldl_cons, first, rest, funext ports, funext requests, hv]
    rfl

/-! ### One port and its bit -/

/-- R67, R68: a port with no RETIRING context after its bit has been written. -/
def PortState.written (x : PortState) (w : Bool) : PortState :=
  match x.enabled, w with
  | false, false => x
  | true, true => x
  | false, true => { x with enabled := true, link := .waitSync }
  | true, false => { x.disabled fun _ => false with enabled := false }

/-- R3, R117: the outstanding request of a port after its bit has been written. -/
def State.requestAfterWrite (s : State) (p : Port) (w : Bool) : Option Request :=
  if (s.port p).enabled = true ∧ w = false ∧ (s.port p).link = .responding ∧ (s.port p).builder.current ≠ none then
    (s.request p).map fun r => { r with wanted := false }
  else s.request p

theorem State.writeEnable_eq {s : State} {p : Port} {w : Bool}
    (h : ∀ t : Stream, (s.port p).enabled = true → w = false → (s.context p t).state ≠ .retiring) :
    s.writeEnable p w = (s.setRequest p (s.requestAfterWrite p w)).setPort p ((s.port p).written w) := by
  cases he : (s.port p).enabled with
  | false =>
    have request : s.requestAfterWrite p w = s.request p := if_neg fun h => by simp [he] at h
    rw [request, s.setRequest_request_id]
    cases w with
    | false => simp only [State.writeEnable_same he, PortState.written, he, State.setPort_port_id]
    | true => simp only [State.writeEnable_enables he, State.enablePort, PortState.written, he]
  | true =>
    cases w with
    | true =>
      have request : s.requestAfterWrite p true = s.request p := if_neg fun h => by simp at h
      simp only [State.writeEnable_same he, request, s.setRequest_request_id, PortState.written, he,
        State.setPort_port_id]
    | false =>
      have request : s.requestAfterWrite p false = s.requestAfterCut p := by
        simp only [State.requestAfterWrite, State.requestAfterCut, he, true_and]
      rw [State.writeEnable_of_disable he, State.disablePort_of_none fun t => h t he rfl,
        State.setPort_port_self, State.setPort_setPort, request]
      simp only [PortState.written, he]

/-! ### The four bits -/

/-- R182: each port is written on its own. -/
theorem State.writeEnables_eq {s : State} {v : Word}
    (h : ∀ (p : Port) (t : Stream), (s.port p).enabled = true → v.getLsbD p.val = false →
      (s.context p t).state ≠ .retiring) :
    s.writeEnables v =
      s.withPortsAndRequests (fun p => (s.port p).written (v.getLsbD p.val))
        fun p => s.requestAfterWrite p (v.getLsbD p.val) := by
  have each (u : State) (p : Port) (hc : u.contexts = s.contexts) (hp : u.port p = s.port p)
      (hr : u.request p = s.request p) :
      u.writeEnable p (v.getLsbD p.val) =
        (u.setRequest p (s.requestAfterWrite p (v.getLsbD p.val))).setPort p
          ((s.port p).written (v.getLsbD p.val)) := by
    have context (t : Stream) : u.context p t = s.context p t := by simp only [State.context, hc]
    have request : u.requestAfterWrite p (v.getLsbD p.val) = s.requestAfterWrite p (v.getLsbD p.val) := by
      simp only [State.requestAfterWrite, hp, hr]
    rw [State.writeEnable_eq fun t => by rw [context, hp]; exact h p t, request, hp]
  rw [State.writeEnables, foldl_setRequest_setPort each (by decide) s rfl (fun _ _ => rfl) (fun _ _ => rfl)]
  simp only [mem_allPorts, if_true]

theorem PortState.written_eq (x : PortState) (w : Bool) :
    x.written w =
      match x.enabled, w with
      | false, false => x
      | true, true => x
      | false, true => { x with enabled := true, link := .waitSync }
      | true, false =>
        { x.cut with
          enabled := false
          link := .off
          burst := none
          rxTimer := none
          queue := x.queue.filterMap fun i =>
            match i.state with
            | .receiving _ => none
            | .ready => none
            | .committing c inHand _ counted =>
              if inHand then some { i with state := .committing c true true counted } else none
          returns := []
          reportFlags := 0
          ackCount := 0 } := by
  unfold PortState.written
  cases x.enabled with
  | false => cases w <;> rfl
  | true =>
    cases w with
    | true => rfl
    | false => exact congrArg (fun y : PortState => { y with enabled := false }) x.disabled_of_none

/-- R26: a port that is not disabled keeps its units. -/
theorem PortState.written_units {x : PortState} {w : Bool} (h : ¬ (x.enabled = true ∧ w = false)) :
    (x.written w).queue = x.queue ∧ (x.written w).builder = x.builder := by
  unfold PortState.written
  cases he : x.enabled with
  | false => cases w <;> exact ⟨rfl, rfl⟩
  | true =>
    cases w with
    | true => exact ⟨rfl, rfl⟩
    | false => exact absurd ⟨he, rfl⟩ h

/-- Settles O7: the ports with RETIRING contexts keep their units, so no drain ends. -/
theorem controlWriteEnablesAndDisablesPorts : Obligations.ControlWriteEnablesAndDisablesPorts := by
  intro v s hs hreset hnone c hc
  have settled : (s.withPortsAndRequests (fun p => (s.port p).written (v.getLsbD p.val))
      fun p => s.requestAfterWrite p (v.getLsbD p.val)).settleDrain = _ :=
    State.settleDrain_of_kept hs.1.2 rfl rfl fun p t hr => by
      obtain ⟨queue, builder⟩ := PortState.written_units fun h => hnone p t h.1 h.2 hr
      have port : (s.withPortsAndRequests (fun p => (s.port p).written (v.getLsbD p.val))
          fun p => s.requestAfterWrite p (v.getLsbD p.val)).port p = (s.port p).written (v.getLsbD p.val) :=
        Bank.get_tabulate _ p
      simp only [State.inFlight, port, queue, builder]
  rw [exec_controlWrite hs hreset hc, State.writeEnables_eq hnone, settled]
  exact congrArg (fun ports => Host.Outcome.next (s.withPortsAndRequests ports _))
    (funext fun p => PortState.written_eq _ _)

end Sys2Proof.Machine

/-! PROOFS. WRITE at the head of a work queue: refused, or the begin of its commit (R29, R94, R95). -/

namespace Sys2Proof.Machine

/-! ### The refusal of a WRITE (R29, R94) -/

section
variable {s : State} {p : Port} {t : Stream}

theorem State.writeRefusal_notBound (hb : s.slot p t = none) : s.writeRefusal p t = some .notBound := by
  rw [State.writeRefusal, hb]

variable {b : Binding} (hb : s.slot p t = some b)
include hb

theorem State.writeRefusal_empty (h : (s.context p t).state = .empty) : s.writeRefusal p t = some .rights := by
  simp [State.writeRefusal, hb, h]

theorem State.writeRefusal_atEnd (h : (s.context p t).state = .ended ∨
    ((s.context p t).state = .retiring ∧ (s.context p t).endIndicator = true)) :
    s.writeRefusal p t = some .apertureEnd := by
  rcases h with h | ⟨h, he⟩
  · simp [State.writeRefusal, hb, h]
  · simp [State.writeRefusal, hb, h, he]

theorem State.writeRefusal_retired (h : (s.context p t).state = .retired) : s.writeRefusal p t = some .retired := by
  simp [State.writeRefusal, hb, h]

/-- R29: in a context whose walk goes on, the granted rights decide. -/
theorem State.writeRefusal_walking {k : Copy} (h : (s.context p t).state = .opened ∨
    ((s.context p t).state = .retiring ∧ (s.context p t).endIndicator = false))
    (hk : (s.context p t).copy = some k) :
    s.writeRefusal p t = if k.granted.write then none else some .rights := by
  rcases h with h | ⟨h, he⟩
  · simp [State.writeRefusal, hb, h, HeadContext.granted, hk]
  · simp [State.writeRefusal, hb, h, he, HeadContext.granted, hk]

end

/-! ### WRITE_ITEM, refused or begun -/

section
variable {s : State} {p : Port} {i : WorkItem} (hs : Operating s) (hi : s.readyHead p .write = some i)
include hs hi

theorem exec_writeItem_refused {kind : FaultKind} (h : s.writeRefusal p i.stream = some kind) :
    exec (.writeItem p) s = .next (((s.raiseForItem p i kind).finishHead p).settleDrain) := by
  rw [exec_writeItem, operate_next hs.1, State.executeWrite, hi]
  simp only [h]

theorem exec_writeItem_begun (h : s.writeRefusal p i.stream = none) :
    exec (.writeItem p) s = .next ((s.beginCommit p).settleDrain) := by
  rw [exec_writeItem, operate_next hs.1, State.executeWrite, hi]
  simp only [h]

end

/-! ### The begin of a commit (R3, R95) -/

/-- R3: a commit whose cell is due waits while a request of its port is outstanding. -/
theorem State.continueCommit_of_request {s : State} {p : Port} {i : WorkItem} {rest : List WorkItem} {j : Nat}
    {counted : Bool} (hq : (s.port p).queue = i :: rest) (hi : i.state = .committing j false false counted)
    (hj : j < i.parameter.toNat) (he : (s.context p i.stream).atEnd = false) (hr : s.request p ≠ none) :
    s.continueCommit p = s := by
  obtain ⟨r, hr⟩ := Option.ne_none_iff_exists'.mp hr
  simp [State.continueCommit, hq, hi, Nat.not_le.mpr hj, he, State.requestFor, hr]

/-- The state in which the item at the head of a port's queue is COMMITTING, with no cell committed. -/
def State.withCommitting (s : State) (p : Port) (i : WorkItem) (rest : List WorkItem) (inHand : Bool) : State :=
  s.setPort p { s.port p with queue := { i with state := .committing 0 inHand false false } :: rest }

theorem State.withCommitting_queue (s : State) (p : Port) (i : WorkItem) (rest : List WorkItem) (inHand : Bool) :
    ((s.withCommitting p i rest inHand).port p).queue =
      { i with state := .committing 0 inHand false false } :: rest := by
  simp [State.withCommitting]

section
variable {s : State} {p : Port} {i : WorkItem} {rest : List WorkItem} (hq : (s.port p).queue = i :: rest)
include hq

theorem State.beginCommit_eq : s.beginCommit p = (s.withCommitting p i rest false).continueCommit p := by
  rw [State.beginCommit, hq]
  rfl

/-- R144: an item that becomes COMMITTING is the same unit, so no drain ends, whatever request is posted for it. -/
theorem State.settleDrain_of_committing {u : State} {inHand : Bool} (hs : DrainSettled s)
    (hretire : u.retire = s.retire) (hcontexts : u.contexts = s.contexts)
    (hports : u.ports = (s.withCommitting p i rest inHand).ports) : u.settleDrain = u :=
  State.settleDrain_of_kept hs hretire hcontexts fun q t _ =>
    (State.inFlight_of_ports hports q t).trans (State.setQueue_inFlight (by rw [hq]; rfl) q t)

variable {k : Copy} (hn : 0 < i.parameter.toNat) (hk : (s.context p i.stream).copy = some k)
  (hc : (s.context p i.stream).cursor < k.geometry.size)
include hn hk hc

theorem State.beginCommit_of_request (hr : s.request p ≠ none) :
    s.beginCommit p = s.withCommitting p i rest false := by
  rw [State.beginCommit_eq hq]
  exact State.continueCommit_of_request (s.withCommitting_queue p i rest false) rfl hn
    (HeadContext.atEnd_of_lt hk hc) hr

theorem State.beginCommit_of_no_request {slot : Fin 2} (hr : s.request p = none) (hslot : i.slot = some slot) :
    s.beginCommit p =
      (s.withCommitting p i rest true).setRequest p
        (some (requestAt (.write (((s.port p).slots.get slot).getD 0 0)) (some i.stream) k
          (s.context p i.stream).cursor)) := by
  rw [State.beginCommit_eq hq,
    State.continueCommit_of_lt (s.withCommitting_queue p i rest false) rfl hn hr hslot hk hc]
  simp [State.withCommitting]

end

/-- Settles O24: the context decides the refusal; with none, the outstanding request decides how the commit begins. -/
theorem writeBeginsItsCommit : Obligations.WriteBeginsItsCommit := by
  intro p s i rest hs hl hq hkind hready c refused
  have hi : s.readyHead p .write = some i := State.readyHead_eq hl hq hkind hready
  have hrefused (kind : FaultKind) (h : s.writeRefusal p i.stream = some kind) : refused kind :=
    exec_writeItem_refused hs hi h
  cases hb : s.slot p i.stream with
  | none => exact ⟨fun _ => hrefused _ (State.writeRefusal_notBound hb), by simp⟩
  | some b =>
    refine ⟨nofun, fun _ h => hrefused _ (State.writeRefusal_empty hb h),
      fun _ h => hrefused _ (State.writeRefusal_atEnd hb h),
      fun _ h => hrefused _ (State.writeRefusal_retired hb h), fun k _ h hk => ?_⟩
    have hwalking := State.writeRefusal_walking hb h hk
    refine ⟨fun hg => hrefused _ (by simp [hwalking, hg]), fun hg h0 hc => ?_⟩
    have hbegun := exec_writeItem_begun hs hi (by simp [hwalking, hg])
    have hpositive : 0 < i.parameter.toNat := by bv_omega
    refine ⟨fun hr slot hslot => ?_, fun hr => ?_⟩
    · rw [hbegun, State.beginCommit_of_no_request hq hpositive hk hc hr hslot]
      exact congrArg _ (State.settleDrain_of_committing (inHand := true) hq hs.2 rfl rfl rfl)
    · rw [hbegun, State.beginCommit_of_request hq hpositive hk hc hr]
      exact congrArg _ (State.settleDrain_of_committing (inHand := false) hq hs.2 rfl rfl rfl)

end Sys2Proof.Machine

/-! PROOFS. READ at the head of a work queue: refused, or the join of the return queue (R29, R102, R103). -/

namespace Sys2Proof.Machine

theorem exec_readItem_ready {s : State} {p : Port} {i : WorkItem} (hs : Operating s)
    (hi : s.readyHead p .read = some i) :
    exec (.readItem p) s = .next (((s.readEffect p i).finishHead p).settleDrain) := by
  rw [exec_readItem, operate_next hs.1, State.executeRead, hi]

/-! ### The join of the return queue (R102, R103) -/

section
variable {s : State} {p : Port} {i : WorkItem}

theorem State.joinReturns_suspended (hm : (s.port p).mode = .suspended) : s.joinReturns p i = s := by
  rw [State.joinReturns, hm]

/-- R102: on a RUNNING port the length of the return queue decides. -/
theorem State.joinReturns_running (hm : (s.port p).mode = .running) :
    s.joinReturns p i =
      if (s.port p).returns.length < 4 then
        s.setPort p
          { s.port p with returns := (s.port p).returns ++ [⟨i.stream, i.parameter.toNat, i.capture⟩] }
      else s.raiseForItem p i .overrun := by
  rw [State.joinReturns, hm]

end

/-! ### The effect of a READ (R29) -/

section
variable {s : State} {p : Port} {i : WorkItem}

theorem State.readEffect_notBound (hb : s.slot p i.stream = none) :
    s.readEffect p i = s.raiseForItem p i .notBound := by
  rw [State.readEffect, hb]

variable {b : Binding} (hb : s.slot p i.stream = some b)
include hb

theorem State.readEffect_empty (h : (s.context p i.stream).state = .empty) :
    s.readEffect p i = s.raiseForItem p i .rights := by simp [State.readEffect, hb, h]

theorem State.readEffect_ended (h : (s.context p i.stream).state = .ended) :
    s.readEffect p i = s.raiseForItem p i .apertureEnd := by simp [State.readEffect, hb, h]

theorem State.readEffect_retired
    (h : (s.context p i.stream).state = .retiring ∨ (s.context p i.stream).state = .retired) :
    s.readEffect p i = s.raiseForItem p i .retired := by
  rcases h with h | h <;> simp [State.readEffect, hb, h]

/-- R29, R102: in an OPEN context the granted rights decide. -/
theorem State.readEffect_opened {k : Copy} (h : (s.context p i.stream).state = .opened)
    (hk : (s.context p i.stream).copy = some k) :
    s.readEffect p i = if k.granted.read then s.joinReturns p i else s.raiseForItem p i .rights := by
  simp [State.readEffect, hb, h, HeadContext.granted, hk]

end

/-- Settles O23: the context decides the refusal; with none, the mode and the return queue decide what the READ
joins. -/
theorem readJoinsTheReturnQueue : Obligations.ReadJoinsTheReturnQueue := by
  intro p s i rest hs hl hq hkind hready c claim refused
  have hexec := exec_readItem_ready hs (State.readyHead_eq hl hq hkind hready)
  have hrefused (kind : FaultKind) (h : s.readEffect p i = s.raiseForItem p i kind) : refused kind := by
    rw [h] at hexec
    exact hexec
  cases hb : s.slot p i.stream with
  | none => exact ⟨fun _ => hrefused _ (State.readEffect_notBound hb), by simp⟩
  | some b =>
    refine ⟨nofun, fun _ h => hrefused _ (State.readEffect_empty hb h),
      fun _ h => hrefused _ (State.readEffect_ended hb h),
      fun _ h => hrefused _ (State.readEffect_retired hb h), fun k _ h hk => ?_⟩
    have hopened := State.readEffect_opened hb h hk
    refine ⟨fun hg => hrefused _ (by simp [hopened, hg]), fun hg hm => ?_, fun hg hm hfull => hrefused _ ?_,
      fun hg hm hroom => ?_⟩
    · rw [hexec, hopened, if_pos hg, State.joinReturns_suspended hm]
    · rw [hopened, if_pos hg, State.joinReturns_running hm, if_neg (Nat.not_lt.mpr hfull)]
    · rw [hexec, hopened, if_pos hg, State.joinReturns_running hm, if_pos hroom]

end Sys2Proof.Machine

/-! PROOFS. The retire engine at every point of an event (R125, R135, R145): which operations leave it alone, which count
the end of a unit in it, and that every step keeps it. -/

namespace Sys2Proof.Machine

/-! ### What the invariant of the retire engine reads -/

/-- What the invariant of the retire engine reads of a state, but for the in-flight units. -/
structure EngineView where
  busy : Bool
  phase : RetirePhase
  drained : Nat
  aborted : Nat
  contexts : Bank 4 (Bank 4 HeadContext)

/-- That part of a state. -/
def State.engineView (s : State) : EngineView where
  busy := s.command.busy
  phase := s.retire.phase
  drained := s.retire.drained
  aborted := s.retire.aborted
  contexts := s.contexts

/-- R125, R135, R145: what holds of the retire engine within an event too, before the end-of-drain check. -/
structure EngineView.Sound (e : EngineView) : Prop where
  busy_iff : e.busy = true ↔ e.phase = .draining
  draining : ∀ (p : Port) (t : Stream), ((e.contexts.get p).get t).state = .retiring → e.phase = .draining
  drained_le : e.drained ≤ 255
  aborted_le : e.aborted ≤ 255

/-! ### Operations that leave it alone -/

theorem State.dropRequestValue_engineView (s : State) (p : Port) :
    (s.dropRequestValue p).engineView = s.engineView := rfl

theorem State.setLineLatch_engineView (s : State) (p : Port) : (s.setLineLatch p).engineView = s.engineView := rfl

theorem State.clearPort_engineView (s : State) (p : Port) : (s.clearPort p).engineView = s.engineView := rfl

theorem State.takeLineUp_engineView (s : State) (p : Port) : (s.takeLineUp p).engineView = s.engineView := by
  unfold State.takeLineUp
  split <;> rfl

theorem State.receiveCell_engineView (s : State) (p : Port) (v : Word) :
    (s.receiveCell p v).engineView = s.engineView := by
  unfold State.receiveCell
  split <;> rfl

theorem State.endReturnsIfDone_engineView (s : State) (p : Port) :
    (s.endReturnsIfDone p).engineView = s.engineView := by
  unfold State.endReturnsIfDone
  split <;> rfl

theorem State.startResponse_engineView (s : State) (p : Port) : (s.startResponse p).engineView = s.engineView := by
  unfold State.startResponse
  split
  · exact (State.endReturnsIfDone_engineView _ p).trans rfl
  · rfl

theorem State.continueReturn_engineView (s : State) (p : Port) : (s.continueReturn p).engineView = s.engineView := by
  unfold State.continueReturn
  (repeat' split) <;> rfl

theorem State.sendReport_engineView (s : State) (p : Port) : (s.sendReport p).engineView = s.engineView := by
  unfold State.sendReport
  (repeat' split) <;> rfl

theorem State.sendAck_engineView (s : State) (p : Port) : (s.sendAck p).engineView = s.engineView := by
  unfold State.sendAck
  (repeat' split) <;> rfl

theorem State.sendEnd_engineView (s : State) (p : Port) : (s.sendEnd p).engineView = s.engineView := by
  unfold State.sendEnd
  split <;> rfl

theorem State.markFor_engineView (s : State) (r : Request) : (s.markFor r).engineView = s.engineView := by
  unfold State.markFor
  split <;> rfl

theorem State.writeClassMap_engineView (s : State) (hi : Bool) (v : Word) :
    (s.writeClassMap hi v).engineView = s.engineView := by
  simp only [State.engineView, State.writeClassMap]

theorem State.postHost_engineView (s : State) (access : Access) (wanted : Bool) :
    (s.postHost access wanted).engineView = s.engineView := by
  unfold State.postHost
  split <;> rfl

theorem State.advanceHost_engineView (s : State) : s.advanceHost.engineView = s.engineView := by
  unfold State.advanceHost
  split <;> rfl

theorem State.performHostAccess_engineView (s : State) (r : Request) :
    (s.performHostAccess r).engineView = s.engineView := by
  unfold State.performHostAccess
  split
  · exact (State.advanceHost_engineView _).trans ((State.markFor_engineView _ r).trans rfl)
  · split <;> exact (State.advanceHost_engineView _).trans rfl

/-- R125: on an IDLE unit the completion of a command changes nothing that the invariant reads. -/
theorem State.complete_engineView {s : State} (hb : s.command.busy = false) (code : ResultCode) :
    (s.complete code).engineView = s.engineView := by
  rw [State.engineView, State.engineView, hb]
  rfl

/-! ### The counts (R145) -/

theorem RetireEngine.count_phase (r : RetireEngine) (how : UnitEnd) : (r.count how).phase = r.phase := by
  cases how <;> rfl

theorem RetireEngine.count_le {r : RetireEngine} (hd : r.drained ≤ 255) (ha : r.aborted ≤ 255) (how : UnitEnd) :
    (r.count how).drained ≤ 255 ∧ (r.count how).aborted ≤ 255 := by
  cases how with
  | drained => exact ⟨Nat.min_le_left _ _, ha⟩
  | aborted => exact ⟨hd, Nat.min_le_left _ _⟩

/-- R145: the aborted count saturates at 255. -/
theorem CountsLost.aborted_le {s u : State} (h : CountsLost s u) (hs : s.retire.aborted ≤ 255) :
    u.retire.aborted ≤ 255 := by
  obtain ⟨k, -, haborted⟩ := h
  rw [haborted, countOne_iterate hs]
  exact Nat.min_le_left _ _

/-- R138: the take starts the counts at 0, and its faults count at most 255 units. -/
theorem State.retireTake_counts_le (s : State) (x : Scope) :
    (s.retireTake x).retire.drained ≤ 255 ∧ (s.retireTake x).retire.aborted ≤ 255 := by
  rw [State.retireTake_eq]
  have reported := Reported.raiseAll (s.taken x) (s.entryClaims x)
  refine ⟨?_, reported.counts.aborted_le (Nat.zero_le 255)⟩
  obtain ⟨ports, signals, n, h⟩ := reported.frame
  rw [h]
  exact Nat.zero_le 255

/-- R132: a suspension by command changes what a fault changes. -/
theorem Reported.suspendByCommand (s : State) (p : Port) : Reported s (s.suspendByCommand p) := by
  have flag (u : State) : Reported u (u.setReportFlag p .suspended) := by
    unfold State.setReportFlag
    exact .setPort rfl rfl
  unfold State.suspendByCommand State.raiseSuspended
  split
  · exact ((Reported.enterSuspended s p).trans (flag _)).trans (.takeClaim _ _)
  · exact .refl s

theorem Reported.command {s u : State} (h : Reported s u) : u.command = s.command := by
  obtain ⟨ports, x, n, rfl⟩ := h.frame
  rfl

end Sys2Proof.Machine

namespace Sys2Proof

open Sys2Proof.Machine

/-! ### The kept engine -/

/-- The retire engine of a state is sound: what every operation of an event keeps. -/
def EngineKept (s : State) : Prop := s.engineView.Sound

/-- R144: the invariant of a step is that of the events, and that the drain is settled. -/
theorem retireEngineKept_iff {s : State} : RetireEngineKept s ↔ EngineKept s ∧ DrainSettled s :=
  ⟨fun ⟨hbusy, hdraining, hsettled, hdrained, haborted⟩ => ⟨⟨hbusy, hdraining, hdrained, haborted⟩, hsettled⟩,
    fun ⟨hs, hsettled⟩ => ⟨hs.busy_iff, hs.draining, hsettled, hs.drained_le, hs.aborted_le⟩⟩

/-- R135: a RETIRE that leaves no context RETIRING completes. -/
theorem EngineKept.completeRetire {s : State} (hnone : ∀ (p : Port) (t : Stream), (s.context p t).state ≠ .retiring)
    (hd : s.retire.drained ≤ 255) (ha : s.retire.aborted ≤ 255) (code : ResultCode) :
    EngineKept (s.completeRetire code) :=
  ⟨⟨nofun, nofun⟩, fun p t h => absurd h (hnone p t), hd, ha⟩

/-- R140, R141, R147: after the abort of all RETIRING contexts a RETIRE completes. -/
theorem EngineKept.abortRetiring {s : State} (hd : s.retire.drained ≤ 255) (ha : s.retire.aborted ≤ 255)
    (code : ResultCode) : EngineKept (s.abortRetiring.completeRetire code) := by
  have aborts := s.abortRetiring_aborts
  obtain ⟨-, -, -, -, -, -, retire⟩ := aborts.frame
  have drained : s.abortRetiring.retire.drained = s.retire.drained := (congrArg RetireEngine.drained retire :)
  refine .completeRetire (fun p t h => ?_) (drained.trans_le hd) (aborts.counts.aborted_le ha) code
  rw [aborts.contexts] at h
  split at h
  · cases h
  · next hf => exact hf (State.forced_iff.mpr h)

/-- R136, R142: the beginning of a drain makes the unit BUSY with the engine DRAINING. -/
theorem EngineKept.beginDrain {s : State} (hd : s.retire.drained ≤ 255) (ha : s.retire.aborted ≤ 255) :
    EngineKept s.beginDrain :=
  ⟨⟨fun _ => rfl, fun _ => rfl⟩, fun _ _ _ => rfl, hd, ha⟩

/-- R134, R135: after a soft reset the unit and the engine are IDLE, the counts 0 and every context EMPTY. -/
theorem EngineKept.softResetAll {s : State} : EngineKept s.softResetAll := by
  refine ⟨⟨nofun, nofun⟩, fun p t h => ?_, Nat.zero_le _, Nat.zero_le _⟩
  simp [State.engineView, State.softResetAll, State.softResetBlocks, HeadContext.reset] at h

section
variable {s : State} (hs : EngineKept s)
include hs

theorem EngineKept.of_view {t : State} (h : t.engineView = s.engineView) : EngineKept t := by
  rwa [EngineKept, h]

theorem EngineKept.setPort (p : Port) (x : PortState) : EngineKept (s.setPort p x) := hs.of_view rfl

/-! ### Units that end, and faults -/

theorem EngineKept.unitEnded (p : Port) (t : Stream) (how : UnitEnd) : EngineKept (s.unitEnded p t how) := by
  unfold State.unitEnded
  split
  · obtain ⟨hdrained, haborted⟩ := RetireEngine.count_le hs.drained_le hs.aborted_le how
    have hphase := s.retire.count_phase how
    exact ⟨hs.busy_iff.trans (Eq.congr_left hphase).symm, fun q u h => hphase.trans (hs.draining q u h), hdrained,
      haborted⟩
  · exact hs

theorem EngineKept.unitsEnded (p : Port) (items : List WorkItem) (how : UnitEnd) :
    EngineKept (s.unitsEnded p items how) :=
  List.foldlRecOn (motive := EngineKept) items _ hs fun _ hu i _ => hu.unitEnded p i.stream how

/-- R79, R145: raising faults only counts units. -/
theorem EngineKept.of_reported {u : State} (h : Reported s u) : EngineKept u := by
  have haborted := h.counts.aborted_le hs.aborted_le
  obtain ⟨ports, x, n, rfl⟩ := h.frame
  exact ⟨hs.busy_iff, hs.draining, hs.drained_le, haborted⟩

theorem EngineKept.raise (c : Claim) : EngineKept (s.raise c) := hs.of_reported (.raise s c)

theorem EngineKept.raiseAll (cs : List Claim) : EngineKept (s.raiseAll cs) := hs.of_reported (.raiseAll s cs)

theorem EngineKept.dropReceiving (p : Port) : EngineKept (s.dropReceiving p) :=
  hs.of_reported ((Reported.skipReceiving s p).trans (.removeReceiving _ p))

theorem EngineKept.removeReceiving (p : Port) (how : UnitEnd) : EngineKept (s.removeReceiving p how) :=
  (hs.unitsEnded p _ how).setPort p _

theorem EngineKept.removeItems (p : Port) (chosen told : WorkItem → Bool) :
    EngineKept (s.removeItems p chosen told) := (hs.unitsEnded p _ .aborted).setPort p _

theorem EngineKept.cutResponse (p : Port) : EngineKept (s.cutResponse p) := by
  unfold State.cutResponse
  split
  · refine EngineKept.setPort ?_ p _
    split
    · exact (hs.unitEnded p _ .aborted).of_view (State.dropRequestValue_engineView _ p)
    · exact hs
  · exact hs

theorem EngineKept.finishHead (p : Port) : EngineKept (s.finishHead p) := by
  unfold State.finishHead
  split
  · exact hs
  · exact ((hs.unitEnded p _ .drained).setPort p _).setPort p _

theorem EngineKept.continueCommit (p : Port) : EngineKept (s.continueCommit p) := by
  unfold State.continueCommit
  split
  · exact hs
  · split
    · exact hs
    · exact hs
    · split
      · exact hs
      · split
        · exact hs.finishHead p
        · split
          · exact (hs.raise _).finishHead p
          · split
            · exact hs
            · exact hs.of_view rfl

/-! ### Port operation -/

theorem EngineKept.disablePort (p : Port) : EngineKept (s.disablePort p) :=
  ((hs.cutResponse p).removeItems p _ _).setPort p _

theorem EngineKept.writeEnable (p : Port) (written : Bool) : EngineKept (s.writeEnable p written) := by
  unfold State.writeEnable
  split
  · exact hs
  · exact hs.setPort p _
  · exact hs
  · exact (hs.disablePort p).setPort p _

theorem EngineKept.writeEnables (v : Word) : EngineKept (s.writeEnables v) :=
  List.foldlRecOn (motive := EngineKept) allPorts _ hs fun _ hu p _ => hu.writeEnable p _

theorem EngineKept.loseLine (p : Port) : EngineKept (s.loseLine p) :=
  (((hs.cutResponse p).removeReceiving p .aborted).setPort p _).of_view (State.setLineLatch_engineView _ p)

theorem EngineKept.takeLineDown (p : Port) : EngineKept (s.takeLineDown p) := by
  unfold State.takeLineDown
  split
  · exact hs
  · exact hs
  all_goals exact hs.loseLine p

theorem EngineKept.resetOnePort (p : Port) : EngineKept (s.resetOnePort p) := by
  unfold State.resetOnePort
  split
  · exact ((hs.disablePort p).setPort p _).of_view (State.clearPort_engineView _ p)
  · exact hs.of_view (s.clearPort_engineView p)

/-! ### The decoder -/

theorem EngineKept.setPosition (p : Port) (x : Position) : EngineKept (s.setPosition p x) := hs.setPort p _

theorem EngineKept.closeBurst (p : Port) : EngineKept (s.closeBurst p) := by
  have handed {u : State} (hu : EngineKept u) (turnSeen : Bool) :
      EngineKept (if turnSeen then u.handTurn p else u) := by
    split
    · exact hu.setPort p _
    · exact hu
  unfold State.closeBurst
  split
  · exact hs
  · next b _ =>
    have dropped : EngineKept ((s.removeReceiving p .drained).dropBurst p) :=
      (hs.removeReceiving p .drained).setPort p _
    refine handed ?_ b.turnSeen
    split
    · exact dropped
    · exact dropped.raise _

theorem EngineKept.takeBurstStart (p : Port) : EngineKept (s.takeBurstStart p) := by
  have closed := hs.closeBurst p
  unfold State.takeBurstStart
  split
  · dsimp only
    split
    · exact closed.setPort p _
    · exact closed
  · exact hs

theorem EngineKept.takeBurstEnd (p : Port) : EngineKept (s.takeBurstEnd p) := by
  unfold State.takeBurstEnd
  split
  · exact hs.closeBurst p
  · exact hs

theorem EngineKept.takeCodeViolation (p : Port) : EngineKept (s.takeCodeViolation p) := by
  have broken (x : PortState) : EngineKept ((s.removeReceiving p .drained).setPort p x) :=
    (hs.removeReceiving p .drained).setPort p x
  unfold State.takeCodeViolation
  split
  · split
    · exact hs
    · split
      · exact hs
      all_goals
        dsimp only
        split
        · exact broken _
        · exact (broken _).raise _
  · exact hs

theorem EngineKept.expireReceive (p : Port) : EngineKept (s.expireReceive p) := by
  unfold State.expireReceive
  split
  · exact ((hs.removeReceiving p .drained).setPort p _).raise _
  · exact hs

theorem EngineKept.offerPacket (p : Port) (kind : ItemKind) (d : HeaderBits) :
    EngineKept (s.offerPacket p kind d) := by
  unfold State.offerPacket
  split
  · exact (hs.raise _).setPosition p _
  · exact (hs.setPort p _).setPosition p _

theorem EngineKept.takeLimit (p : Port) (d : HeaderBits) : EngineKept (s.takeLimit p d) := by
  unfold State.takeLimit
  split
  · exact hs.setPort p _
  · exact hs.raise _

theorem EngineKept.deliverWrite (p : Port) (d : HeaderBits) : EngineKept (s.deliverWrite p d) := by
  have offered := hs.offerPacket p .write d
  unfold State.deliverWrite
  dsimp only
  split
  · exact offered.dropReceiving p
  · exact offered

theorem EngineKept.deliver (p : Port) (type : PacketType) (d : HeaderBits) : EngineKept (s.deliver p type d) := by
  cases type with
  | nop => exact (hs.setPort p _).setPosition p _
  | limit => exact ((hs.takeLimit p d).setPort p _).setPosition p _
  | turn => exact (hs.setPort p _).setPosition p _
  | pad => exact hs.setPosition p _
  | start => exact hs.offerPacket p _ d
  | stop => exact hs.offerPacket p _ d
  | read => exact hs.offerPacket p _ d
  | write => exact hs.deliverWrite p d

theorem EngineKept.checkSequence (p : Port) (d : HeaderBits) : EngineKept (s.checkSequence p d) := by
  unfold State.checkSequence
  refine EngineKept.setPort ?_ p _
  split
  · exact hs
  · split
    · exact hs
    · exact hs.raise _

theorem EngineKept.acceptHeader (p : Port) (found : Mode) (turnSeen : Bool) (d : HeaderBits) :
    EngineKept (s.acceptHeader p found turnSeen d) := by
  unfold State.acceptHeader
  split
  · exact (hs.raise _).setPosition p _
  · exact (hs.raise _).setPosition p _
  · split
    · exact hs.setPosition p _
    · exact hs.deliver p _ d

theorem EngineKept.takeHeader (p : Port) (turnSeen : Bool) (d : HeaderBits) (check : Byte) :
    EngineKept (s.takeHeader p turnSeen d check) := by
  unfold State.takeHeader
  dsimp only
  split
  · exact (hs.checkSequence p _).acceptHeader p _ _ _
  · exact ((hs.raise _).checkSequence p _).acceptHeader p _ _ _
  · exact (hs.raise _).setPosition p _

theorem EngineKept.takePayloadByte (p : Port) (d : HeaderBits) (taken : Nat) (lastByte : Byte) (sum : Word)
    (b : Byte) : EngineKept (s.takePayloadByte p d taken lastByte sum b) := by
  unfold State.takePayloadByte
  refine EngineKept.setPosition ?_ p _
  split
  · exact hs.of_view (s.receiveCell_engineView p _)
  · exact hs

theorem EngineKept.compareSum (p : Port) (d : HeaderBits) (sum received : Word) :
    EngineKept (s.compareSum p d sum received) := by
  unfold State.compareSum
  refine EngineKept.setPosition ?_ p _
  split
  · split
    · exact hs.setPort p _
    · exact (hs.removeReceiving p .drained).raise _
  · split
    · exact hs.setPort p _
    · exact hs.raise _

theorem EngineKept.takeByteIn (p : Port) (burst : Burst) (b : Byte) : EngineKept (s.takeByteIn p burst b) := by
  unfold State.takeByteIn
  split
  · exact hs.takeHeader p _ _ _
  · exact hs.setPosition p _
  · exact hs.takePayloadByte p _ _ _ _ _
  · exact hs.setPosition p _
  · exact hs.compareSum p _ _ _
  · exact hs.setPosition p _
  · exact hs

theorem EngineKept.takeByte (p : Port) (b : Byte) : EngineKept (s.takeByte p b) := by
  unfold State.takeByte
  split
  · split
    · exact hs
    · exact hs.takeByteIn p _ b
  · exact hs

/-! ### Contexts -/

/-- R35: no operation but the take of a RETIRE makes a context RETIRING. -/
theorem EngineKept.setContext {p : Port} {t : Stream} {c : HeadContext}
    (hc : c.state = .retiring → (s.context p t).state = .retiring) : EngineKept (s.setContext p t c) := by
  refine ⟨hs.busy_iff, fun q u h => ?_, hs.drained_le, hs.aborted_le⟩
  have h : ((s.setContext p t c).context q u).state = .retiring := h
  rw [State.setContext_context] at h
  split at h
  · exact hs.draining p t (hc h)
  · exact hs.draining q u h

theorem EngineKept.endWalk (p : Port) (t : Stream) : EngineKept (s.endWalk p t) := hs.of_view rfl

theorem EngineKept.advanceFor (p : Port) (r : Request) : EngineKept (s.advanceFor p r) := by
  obtain h | ⟨t, -, h⟩ := s.advanceFor_cases p r <;> rw [h]
  · exact hs
  · exact hs.setContext (HeadContext.advance_retiring _).mp

/-- R31, R33: a context that a START reloads is RETIRING only if it was. -/
theorem EngineKept.loadContext (p : Port) (t : Stream) (b : Binding) : EngineKept (s.loadContext p t b) := by
  refine (hs.endWalk p t).setContext fun h => ?_
  dsimp only at h
  split at h
  · assumption
  · cases h

/-- R28, R34: a STOP leaves the context EMPTY. -/
theorem EngineKept.emptyContext (p : Port) (t : Stream) : EngineKept (s.emptyContext p t) :=
  (hs.endWalk p t).setContext nofun

/-! ### Work items -/

theorem EngineKept.executeStart (p : Port) : EngineKept (s.executeStart p) := by
  unfold State.executeStart
  split
  · exact hs
  · next i _ =>
    refine EngineKept.finishHead ?_ p
    unfold State.startEffect
    split
    · exact hs.raise _
    · split
      · exact hs.raise _
      · next b _ =>
        have loaded := hs.loadContext p i.stream b
        split
        · exact hs.raise _
        · split
          · exact loaded
          · split
            · exact hs
            · exact loaded.raise _

theorem EngineKept.executeStop (p : Port) : EngineKept (s.executeStop p) := by
  unfold State.executeStop
  split
  · exact hs
  · refine EngineKept.finishHead ?_ p
    unfold State.stopEffect
    split
    · exact hs.raise _
    · split
      · exact hs.raise _
      · exact hs.emptyContext p _
      · exact hs.emptyContext p _
      · exact hs
      · exact hs.raise _

theorem EngineKept.joinReturns (p : Port) (i : WorkItem) : EngineKept (s.joinReturns p i) := by
  unfold State.joinReturns
  split
  · exact hs
  · split
    · exact hs.setPort p _
    · exact hs.raise _

theorem EngineKept.executeRead (p : Port) : EngineKept (s.executeRead p) := by
  unfold State.executeRead
  split
  · exact hs
  · refine EngineKept.finishHead ?_ p
    unfold State.readEffect
    split
    · exact hs.raise _
    · split
      · exact hs.raise _
      · split
        · exact hs.joinReturns p _
        · exact hs.raise _
      all_goals exact hs.raise _

theorem EngineKept.executeWrite (p : Port) : EngineKept (s.executeWrite p) := by
  unfold State.executeWrite
  split
  · exact hs
  · split
    · exact (hs.raise _).finishHead p
    · exact (hs.setPort p _).continueCommit p

/-! ### Responses and grants -/

theorem EngineKept.endReturnsIfDone (p : Port) : EngineKept (s.endReturnsIfDone p) :=
  hs.of_view (s.endReturnsIfDone_engineView p)

theorem EngineKept.continueReturn (p : Port) : EngineKept (s.continueReturn p) :=
  hs.of_view (s.continueReturn_engineView p)

theorem EngineKept.beginSized (p : Port) (t : Stream) (n : Nat) : EngineKept (s.beginSized p t n) := by
  unfold State.beginSized
  split
  · exact (hs.setPort p _).continueReturn p
  · exact hs.endReturnsIfDone p

theorem EngineKept.serveEntry (p : Port) (e : ReturnEntry) : EngineKept (s.serveEntry p e) := by
  unfold State.serveEntry
  split
  · exact (hs.raise _).endReturnsIfDone p
  · exact (hs.raiseAll _).beginSized p _ _

theorem EngineKept.takeEntry (p : Port) : EngineKept (s.takeEntry p) := by
  unfold State.takeEntry
  split
  · split
    · exact hs.setPort p _
    · exact (hs.setPort p _).serveEntry p _
  · exact hs

theorem EngineKept.endReturn (p : Port) : EngineKept (s.endReturn p) := by
  unfold State.endReturn
  split
  · exact hs
  · split
    · exact hs
    · exact ((hs.unitEnded p _ .drained).setPort p _).endReturnsIfDone p

theorem EngineKept.cellCommitted (p : Port) : EngineKept (s.cellCommitted p) := by
  unfold State.cellCommitted
  split
  · exact hs
  · split
    · exact hs
    · exact hs
    · split
      · refine EngineKept.setPort ?_ p _
        split
        · exact hs
        · exact hs.unitEnded p _ .aborted
      · exact hs.setPort p _

theorem EngineKept.performPort (p : Port) : EngineKept (s.performPort p) := by
  have released : EngineKept (s.releasePort p) := hs.of_view rfl
  unfold State.performPort
  split
  · exact hs.of_view rfl
  · next r _ =>
    dsimp only
    split
    · next v _ =>
      have written : EngineKept (((s.releasePort p).writeCell r.row r.column v).markFor r) :=
        released.of_view ((State.markFor_engineView _ r).trans rfl)
      exact ((written.advanceFor p r).cellCommitted p).continueCommit p
    · have moved := released.advanceFor p r
      refine EngineKept.continueReturn (EngineKept.continueCommit ?_ p) p
      split
      · exact moved.setPort p _
      · exact moved

/-! ### Retirement -/

/-- R35, R144. -/
theorem EngineKept.settleDrain : EngineKept s.settleDrain := by
  have drained {p : Port} {t : Stream} (h : ((s.withContexts s.drainedContext).context p t).state = .retiring) :
      (s.context p t).state = .retiring ∧ s.inFlight p t ≠ 0 := by
    rwa [State.withContexts_context, State.drainedContext_retiring] at h
  cases hd : s.retire.phase with
  | idle => rwa [State.settleDrain_idle hd]
  | draining =>
    by_cases h : ∃ (p : Port) (t : Stream), (s.context p t).state = .retiring ∧ s.inFlight p t ≠ 0
    · rw [State.settleDrain_of_unit hd h]
      exact ⟨hs.busy_iff, fun p t h => hs.draining p t (drained h).1, hs.drained_le, hs.aborted_le⟩
    · push Not at h
      rw [State.settleDrain_of_no_unit hd h]
      refine .completeRetire (s := s.withContexts s.drainedContext) (fun p t hr => ?_) hs.drained_le hs.aborted_le _
      obtain ⟨hretiring, hunit⟩ := drained hr
      exact hunit (h p t hretiring)

/-- R147. -/
theorem EngineKept.expireDrain : EngineKept s.expireDrain := by
  unfold State.expireDrain
  split
  · exact .abortRetiring hs.drained_le hs.aborted_le _
  · exact hs

theorem EngineKept.complete (hb : s.command.busy = false) (code : ResultCode) : EngineKept (s.complete code) :=
  hs.of_view (State.complete_engineView hb code)

/-- R131, R135 to R142: refused, without effect, begun as a drain, or completed after the abort. -/
theorem EngineKept.retireCommand (hb : s.command.busy = false) : EngineKept s.retireCommand := by
  unfold State.retireCommand
  split
  · exact hs.complete hb _
  · next x _ =>
    obtain ⟨hdrained, haborted⟩ := s.retireTake_counts_le x
    split
    · exact hs.complete hb _
    · split
      · exact .beginDrain hdrained haborted
      · exact .abortRetiring hdrained haborted _

/-! ### Commands of the command unit -/

/-- R23: an UNBIND leaves the context EMPTY. -/
theorem EngineKept.unbindCommand (hb : s.command.busy = false) : EngineKept s.unbindCommand := by
  have refused (code : ResultCode) : EngineKept (s.complete code) := hs.complete hb code
  have unbound (p : Port) (t : Stream) : EngineKept ((s.unbindSlot p t).complete .done) :=
    EngineKept.complete ((hs.emptyContext p t).of_view rfl) hb _
  unfold State.unbindCommand
  split
  · split
    · exact refused _
    · split
      · exact unbound _ _
      · exact refused _
      · exact refused _
      · exact refused _
      · exact unbound _ _
  · exact refused _

theorem EngineKept.runCommand (hb : s.command.busy = false) (c : Option Command) : EngineKept (s.runCommand c) := by
  have answered {t : State} (code : ResultCode) (hview : t.engineView = s.engineView) :
      EngineKept (t.complete code) :=
    EngineKept.complete (hs.of_view hview) ((congrArg EngineView.busy hview).trans hb) code
  cases c with
  | none => exact answered _ rfl
  | some c =>
    cases c with
    | retire => exact hs.retireCommand hb
    | unbind => exact hs.unbindCommand hb
    | suspendPort =>
      simp only [State.runCommand, State.suspendCommand]
      split
      · exact answered _ rfl
      · next p _ =>
        have suspended := Reported.suspendByCommand s p
        exact (hs.of_reported suspended).complete (suspended.command ▸ hb) _
    | resetPort =>
      simp only [State.runCommand, State.resetPortCommand]
      split
      · exact answered _ rfl
      · next p _ => exact (hs.resetOnePort p).complete (by rw [State.resetOnePort_command, hb]) _
    | defineAperture =>
      simp only [State.runCommand, State.defineCommand]
      split <;> exact answered _ rfl
    | clearAperture =>
      simp only [State.runCommand, State.clearCommand]
      (repeat' split) <;> exact answered _ rfl
    | bind =>
      simp only [State.runCommand, State.bindCommand]
      (repeat' split) <;> exact answered _ rfl
    | resumePort =>
      simp only [State.runCommand, State.resumeCommand]
      (repeat' split) <;> exact answered _ rfl
    | hostOpen =>
      simp only [State.runCommand, State.hostOpenCommand]
      (repeat' split) <;> exact answered _ rfl
    | hostClose => exact answered _ rfl

/-- R124, R126. -/
theorem EngineKept.writeCmd (v : Word) : EngineKept (s.writeCmd v) := by
  have taken : EngineKept (s.takeCommand v) := hs.of_view rfl
  unfold State.writeCmd
  split
  · exact hs.of_view rfl
  · next hb => exact taken.runCommand (Bool.eq_false_iff.mpr hb) _

/-! ### Bus cycles and the grants of the host -/

theorem EngineKept.writeCycle (r : Register) (v : Word) : EngineKept (s.writeCycle r v) := by
  cases r with
  | control =>
    simp only [State.writeCycle, State.writeControl]
    split
    · exact .softResetAll
    · exact hs.writeEnables v
  | cmd => exact hs.writeCmd v
  | hostData =>
    simp only [State.writeCycle, State.hostWrite]
    split
    · exact hs.raise _
    · exact hs.of_view (s.postHost_engineView _ _)
  | classMap hi => exact hs.of_view (s.writeClassMap_engineView hi v)
  | ctxSelect =>
    simp only [State.writeCycle, State.writeCtxSelect]
    split
    · exact hs.of_view rfl
    · exact hs
  | _ => exact hs.of_view rfl

theorem EngineKept.readCycle (r : Register) (released : Bool) : EngineKept (s.readCycle r released) := by
  cases r with
  | hostData =>
    simp only [State.readCycle, State.hostRead]
    split
    · exact (hs.raise _).of_view rfl
    · exact hs.of_view (s.postHost_engineView _ _)
  | ctxCursor hi => cases hi <;> exact hs.of_view rfl
  | hostCursor hi => cases hi <;> exact hs.of_view rfl
  | _ => exact hs.of_view rfl

theorem EngineKept.takeCycle (c : BusCycle) : EngineKept (s.takeCycle c) := by
  cases c with
  | read r released => exact (hs.readCycle r released).settleDrain
  | write r v => exact (hs.writeCycle r v).settleDrain

theorem EngineKept.takeHeldCycle (c : BusCycle) (behind : List BusCycle) : EngineKept (s.takeHeldCycle c behind) := by
  unfold State.takeHeldCycle
  split
  · exact (hs.takeCycle c).of_view rfl
  · exact hs.takeCycle c

omit hs in
theorem EngineKept.takeHeld (held : List BusCycle) : ∀ {s : State}, EngineKept s → EngineKept (s.takeHeld held) := by
  induction held with
  | nil => exact fun hs => hs.of_view rfl
  | cons c rest ih =>
    intro s hs
    have taken := hs.takeHeldCycle c rest
    rw [State.takeHeld_cons]
    split
    · exact taken.of_view rfl
    · exact ih taken

theorem EngineKept.performGrant : EngineKept s.performGrant := by
  unfold State.performGrant
  split
  · exact hs
  · exact hs.performPort _
  · unfold State.performHost
    split
    · exact hs.of_view rfl
    · exact EngineKept.takeHeld _ (hs.of_view (s.performHostAccess_engineView _))

/-! ### Events -/

/-- R144: the end-of-drain check settles what the event has kept. -/
theorem EngineKept.settled : RetireEngineKept s.settleDrain :=
  retireEngineKept_iff.mpr ⟨hs.settleDrain, s.settleDrain_drainSettled⟩

/-- R180: a bus cycle ends with the check. -/
theorem EngineKept.takeCycle_settled (c : BusCycle) : RetireEngineKept (s.takeCycle c) := by
  cases c with
  | read r released => exact (hs.readCycle r released).settled
  | write r v => exact (hs.writeCycle r v).settled

omit hs in
/-- Every command is POWER_ON_RESET, an event that keeps the engine, or a host bus cycle. -/
theorem exec_engineKept_cases (c : Instr) :
    (∃ asserted, ∀ s, exec c s = .next (s.driveReset asserted)) ∨
      (∃ effect : State → State, (∀ s, EngineKept s → EngineKept (effect s)) ∧ ∀ s, exec c s = operate s effect) ∨
      ∃ cycle, ∀ s, exec c s = busCommand s cycle := by
  cases c with
  | powerOnReset asserted => exact .inl ⟨asserted, exec_powerOnReset asserted⟩
  | lineUp p => exact .inr (.inl ⟨_, fun s hs => hs.of_view (s.takeLineUp_engineView p), exec_lineUp p⟩)
  | lineDown p => exact .inr (.inl ⟨_, fun _ hs => hs.takeLineDown p, exec_lineDown p⟩)
  | burstStart p => exact .inr (.inl ⟨_, fun _ hs => hs.takeBurstStart p, exec_burstStart p⟩)
  | byte p b => exact .inr (.inl ⟨_, fun _ hs => hs.takeByte p b, exec_byte p b⟩)
  | burstEnd p => exact .inr (.inl ⟨_, fun _ hs => hs.takeBurstEnd p, exec_burstEnd p⟩)
  | codeViolation p => exact .inr (.inl ⟨_, fun _ hs => hs.takeCodeViolation p, exec_codeViolation p⟩)
  | receiveTimeout p => exact .inr (.inl ⟨_, fun _ hs => hs.expireReceive p, exec_receiveTimeout p⟩)
  | startItem p => exact .inr (.inl ⟨_, fun _ hs => hs.executeStart p, exec_startItem p⟩)
  | stopItem p => exact .inr (.inl ⟨_, fun _ hs => hs.executeStop p, exec_stopItem p⟩)
  | readItem p => exact .inr (.inl ⟨_, fun _ hs => hs.executeRead p, exec_readItem p⟩)
  | writeItem p => exact .inr (.inl ⟨_, fun _ hs => hs.executeWrite p, exec_writeItem p⟩)
  | arbiterGrant => exact .inr (.inl ⟨_, fun s hs => hs.of_view (t := s.chooseGrant) rfl, exec_arbiterGrant⟩)
  | grantPerformed => exact .inr (.inl ⟨_, fun _ hs => hs.performGrant, exec_grantPerformed⟩)
  | responseStart p =>
    exact .inr (.inl ⟨_, fun s hs => hs.of_view (s.startResponse_engineView p), exec_responseStart p⟩)
  | returnEntryTake p => exact .inr (.inl ⟨_, fun _ hs => hs.takeEntry p, exec_returnEntryTake p⟩)
  | returnEnd p => exact .inr (.inl ⟨_, fun _ hs => hs.endReturn p, exec_returnEnd p⟩)
  | reportSent p => exact .inr (.inl ⟨_, fun s hs => hs.of_view (s.sendReport_engineView p), exec_reportSent p⟩)
  | ackSent p => exact .inr (.inl ⟨_, fun s hs => hs.of_view (s.sendAck_engineView p), exec_ackSent p⟩)
  | endSymbolSent p => exact .inr (.inl ⟨_, fun s hs => hs.of_view (s.sendEnd_engineView p), exec_endSymbolSent p⟩)
  | drainTimerExpiry => exact .inr (.inl ⟨_, fun _ hs => hs.expireDrain, exec_drainTimerExpiry⟩)
  | _ => exact .inr (.inr ⟨_, fun _ => rfl⟩)

end

/-! ### The step -/

section
variable {s : State} (hs : RetireEngineKept s)
include hs

/-- Being kept depends on the engine's view and the ports alone. -/
theorem RetireEngineKept.of_view {t : State} (hview : t.engineView = s.engineView)
    (hi : ∀ p u, t.inFlight p u = s.inFlight p u) : RetireEngineKept t := by
  obtain ⟨hkept, hsettled⟩ := retireEngineKept_iff.mp hs
  have hcontext (p : Port) (u : Stream) : t.context p u = s.context p u :=
    congrArg (fun e : EngineView => (e.contexts.get p).get u) hview
  exact retireEngineKept_iff.mpr ⟨hkept.of_view hview, drainSettled_congr hsettled (congrArg EngineView.phase hview)
    (fun p u => by rw [hcontext]) fun p u _ => hi p u⟩

theorem RetireEngineKept.engine : EngineKept s := (retireEngineKept_iff.mp hs).1

theorem RetireEngineKept.driveReset (asserted : Bool) : RetireEngineKept (s.driveReset asserted) := by
  cases asserted with
  | true =>
    obtain ⟨-, -, -, -, -, hreset⟩ := powerOnStateIsKept
    exact hreset.of_view rfl fun _ _ => rfl
  | false => exact hs.of_view rfl fun _ _ => rfl

theorem RetireEngineKept.of_exec {t : State} (c : Instr) (h : exec c s = .next t) : RetireEngineKept t := by
  obtain ⟨asserted, hc⟩ | ⟨effect, he, hc⟩ | ⟨cycle, hc⟩ := exec_engineKept_cases c <;> rw [hc] at h
  · cases h
    exact hs.driveReset asserted
  · unfold operate at h
    split at h <;> cases h
    · exact hs
    · exact (he s hs.engine).settled
  · unfold busCommand State.hostCycle at h
    (repeat' split at h) <;> cases h
    · exact hs
    · exact hs.of_view rfl fun _ _ => rfl
    · exact hs.engine.takeCycle_settled cycle

/-- R61: a microsecond of a receive timer ends no unit. -/
theorem RetireEngineKept.countReceive (p : Port) : RetireEngineKept (s.countReceive p) :=
  hs.of_view rfl (State.setPort_inFlight (x := { s.port p with rxTimer := timerTick (s.port p).rxTimer }) rfl rfl)

theorem RetireEngineKept.countDrain : RetireEngineKept s.countDrain := hs.of_view rfl fun _ _ => rfl

theorem RetireEngineKept.tickReceive (p : Port) : RetireEngineKept (s.tickReceive p) := by
  have counted := hs.countReceive p
  unfold State.tickReceive
  split
  · exact (counted.engine.expireReceive p).settled
  · exact counted

/-- R147: the expiry of the drain timer ends the drain. -/
theorem RetireEngineKept.expireDrain : RetireEngineKept s.expireDrain := by
  obtain ⟨hkept, hsettled⟩ := retireEngineKept_iff.mp hs
  refine retireEngineKept_iff.mpr ⟨hkept.expireDrain, ?_⟩
  unfold State.expireDrain
  split
  · exact nofun
  · exact hsettled

theorem RetireEngineKept.tick : RetireEngineKept s.tick := by
  unfold State.tick
  split
  · exact hs
  · have received : RetireEngineKept (allPorts.foldl State.tickReceive s) :=
      List.foldlRecOn allPorts State.tickReceive hs fun _ hu p _ => hu.tickReceive p
    unfold State.tickDrain
    split
    · exact received.countDrain.expireDrain
    · exact received.countDrain

end

/-- Settles O59: within an event the engine is kept operation by operation; the end-of-drain check then settles it. -/
theorem retireEngineKeptByEveryStep : Obligations.RetireEngineKeptByEveryStep := by
  intro s t hs h
  unfold step at h
  split at h
  · cases h
    exact hs.tick
  · next c rest _ =>
    have queued : RetireEngineKept { s with pending := rest } := hs.of_view rfl fun _ _ => rfl
    exact queued.of_exec c h

end Sys2Proof

/-! PROOFS. Writes to CMD that are no command: of no opcode (R128), and on a BUSY unit (R126). -/

namespace Sys2Proof.Machine

/-! ### A value that is no opcode (R128, R186) -/

/-- R186: the opcodes are those of the ten commands. -/
theorem commandOf_eq_none {v : Word}
    (h : v ∉ ([0x0011, 0x0012, 0x0021, 0x0022, 0x0031, 0x0041, 0x0042, 0x0043, 0x0051, 0x0052] : List Word)) :
    commandOf v = none := by
  simp only [List.mem_cons, List.not_mem_nil, not_or] at h
  simp only [commandOf, h, if_false]

theorem exec_badCommand_next {s : State} (hs : CommandReady s) {v : Word} (hv : commandOf v = none) :
    exec (.badCommand v) s = .next (s.answered v .badCommand) := by
  rw [exec_badCommand, busCommand_cmd hs, hv, ← settleDrain_complete_takeCommand hs]
  rfl

/-! ### A collision (R126) -/

/-- R126: the collision flag is no part of the drain. -/
theorem busCommand_cmd_busy {s : State} (hs : BusFree s) (hb : s.command.busy = true) (v : Word) :
    busCommand s (.write .cmd v) = .next s.noteCollision := by
  have collides : s.writeCycle .cmd v = s.noteCollision := if_pos hb
  exact busCommand_write hs collides rfl rfl (State.inFlight_of_ports rfl)

/-- Log entry 4: the rows of the command unit are writes to CMD. -/
theorem exec_commandRow (v : Word) {c : Instr}
    (hc : c ∈ [Instr.cmdCollision v, .badCommand v, .defineAperture, .clearAperture, .bind, .unbind, .retireAbort,
      .retireDrain, .suspendPort, .resumePort, .resetPort, .hostOpen, .hostClose]) :
    ∃ w : Word, ∀ s, exec c s = busCommand s (.write .cmd w) := by
  simp only [List.mem_cons, List.not_mem_nil, or_false] at hc
  obtain rfl | rfl | rfl | rfl | rfl | rfl | rfl | rfl | rfl | rfl | rfl | rfl | rfl := hc <;>
    exact ⟨_, fun _ => rfl⟩

/-- Settles O41: the value decides on an IDLE unit; a BUSY one only notes the collision. -/
theorem badCommandAndCollisionResults : Obligations.BadCommandAndCollisionResults := by
  refine ⟨fun v s hs hv => exec_badCommand_next hs (commandOf_eq_none hv), fun v s hs hb c hc => ?_⟩
  obtain ⟨w, hw⟩ := exec_commandRow v hc
  rw [hw, busCommand_cmd_busy hs hb]
  rfl

end Sys2Proof.Machine

/-! PROOFS. The scope of a RETIRE (R131), and the RETIRE that is refused or affects nothing (R131, R137). -/

namespace Sys2Proof.Machine

/-! ### The scope and its target (R131, R186) -/

/-- R131: the scope number decides which targets have to be in range. -/
theorem retireScope_eq (a : Bank 4 Word) :
    retireScope a =
      if argScope a = 0 then .ok .all
      else if argScope a = 1 then (portOf (argPort a)).elim (.error .badIndex) fun p => .ok (.port p)
      else if argScope a = 2 then (indexOf (argIndex a)).elim (.error .badIndex) fun n => .ok (.aperture n)
      else if argScope a = 3 then
        (portOf (argPort a)).elim (.error .badIndex) fun p =>
          (portOf (argStream a)).elim (.error .badIndex) fun t => .ok (.binding p t)
      else .error .badScope := by
  unfold retireScope
  split
  · next h => rw [if_pos h]
  · next h =>
    rw [h]
    cases portOf (argPort a) <;> rfl
  · next h =>
    rw [h]
    cases indexOf (argIndex a) <;> rfl
  · next h =>
    rw [h]
    cases portOf (argPort a) <;> cases portOf (argStream a) <;> rfl
  · next h0 h1 h2 h3 => rw [if_neg h0, if_neg h1, if_neg h2, if_neg h3]

section
variable {a : Bank 4 Word}

theorem retireScope_badScope (h : 4 ≤ argScope a) : retireScope a = .error .badScope := by
  rw [retireScope_eq, if_neg (by omega), if_neg (by omega), if_neg (by omega), if_neg (by omega)]

theorem retireScope_all (h : argScope a = 0) : retireScope a = .ok .all := by
  rw [retireScope_eq, if_pos h]

theorem retireScope_port_badIndex (h : argScope a = 1) (hp : 4 ≤ argPort a) : retireScope a = .error .badIndex := by
  rw [retireScope_eq, h, portOf_eq_none hp]
  rfl

theorem retireScope_port {p : Port} (h : argScope a = 1) (hp : argPort a = p.val) :
    retireScope a = .ok (.port p) := by
  rw [retireScope_eq, h, hp, portOf_val]
  rfl

theorem retireScope_aperture_badIndex (h : argScope a = 2) (hn : 32 ≤ argIndex a) :
    retireScope a = .error .badIndex := by
  rw [retireScope_eq, h, indexOf_eq_none hn]
  rfl

theorem retireScope_aperture {n : ApIndex} (h : argScope a = 2) (hn : argIndex a = n.val) :
    retireScope a = .ok (.aperture n) := by
  rw [retireScope_eq, h, hn, indexOf_val]
  rfl

theorem retireScope_binding_badIndex (h : argScope a = 3) (hpt : 4 ≤ argPort a ∨ 4 ≤ argStream a) :
    retireScope a = .error .badIndex := by
  rw [retireScope_eq, h]
  obtain hp | ht := hpt
  · rw [portOf_eq_none hp]
    rfl
  · rw [portOf_eq_none ht]
    cases portOf (argPort a) <;> rfl

theorem retireScope_binding {p : Port} {t : Stream} (h : argScope a = 3) (hp : argPort a = p.val)
    (ht : argStream a = t.val) : retireScope a = .ok (.binding p t) := by
  rw [retireScope_eq, h, hp, ht, portOf_val, portOf_val]
  rfl

end

/-! ### A RETIRE that changes nothing (R131, R137) -/

/-- R137: the affected set is empty where no OPEN or ENDED context is in the scope. -/
theorem State.affectedSet_of_none {s : State} {x : Scope}
    (heads : ∀ (p : Port) (t : Stream), (s.context p t).state = .opened ∨ (s.context p t).state = .ended →
      x.coversHead p t (s.context p t).copy = false)
    (host : s.hostContext.state = .opened ∨ s.hostContext.state = .ended →
      x.coversHost s.hostContext.copy = false) : s.affectedSet x = [] := by
  refine State.affectedSet_eq_nil.mpr ⟨List.filter_eq_nil_iff.mpr fun h _ => ?_, ?_⟩
  · have covered := heads h.1 h.2
    simp only [State.affects, Bool.and_eq_true, Bool.or_eq_true, beq_iff_eq]
    exact fun ⟨hlive, hcovers⟩ => by simp [covered hlive] at hcovers
  · simp only [State.hostAffected, Bool.and_eq_false_iff, Bool.or_eq_false_iff, beq_eq_false_iff_ne]
    tauto

section
variable {s : State} (hs : CommandReady s)
include hs

theorem busCommand_retire_refused {code : ResultCode} (h : retireScope s.command.args = .error code) :
    busCommand s (.write .cmd 0x0031) = .next (s.answered 0x0031 code) := by
  rw [busCommand_retire hs, ← settleDrain_complete_takeCommand hs, State.retireCommand, State.takeCommand_staged, h]

theorem busCommand_retire_none {x : Scope} (hx : retireScope s.command.args = .ok x) (ha : s.affectedSet x = []) :
    busCommand s (.write .cmd 0x0031) = .next (s.answered 0x0031 .done) := by
  rw [busCommand_retire hs, State.retireCommand_none hx ha, State.answered_settled hs.1.1.2]

end

/-- Log entry 4: both rows of RETIRE are the write of $0031. -/
theorem exec_retireRow {c : Instr} (hc : c ∈ [Instr.retireAbort, .retireDrain]) (s : State) :
    exec c s = busCommand s (.write .cmd 0x0031) := by
  simp only [List.mem_cons, List.not_mem_nil, or_false] at hc
  obtain rfl | rfl := hc
  · exact exec_retireAbort s
  · exact exec_retireDrain s

/-- Settles O42: the staged scope and target decide, then whether the affected set is empty. -/
theorem retireChecksItsScope : Obligations.RetireChecksItsScope := by
  refine ⟨fun a => ⟨retireScope_badScope, retireScope_all, retireScope_port_badIndex, fun p => retireScope_port,
    retireScope_aperture_badIndex, fun n => retireScope_aperture, retireScope_binding_badIndex,
    fun p t => retireScope_binding⟩, fun s hs => ?_⟩
  intro a taken c hc
  rw [exec_retireRow hc]
  refine ⟨fun code h => busCommand_retire_refused hs h, fun x hx heads host => ?_⟩
  refine busCommand_retire_none hs hx (State.affectedSet_of_none (fun p t hlive => ?_) fun hlive => ?_)
  · rw [← heads p t hlive]
    cases x with
    | aperture n => exact Scope.coversHead_aperture n p t _
    | all | port | binding => rfl
  · rw [← host hlive]
    cases x with
    | aperture n => exact Scope.coversHost_aperture n _
    | all | port | binding => rfl

end Sys2Proof.Machine

/-! PROOFS. HOST_OPEN (R132, R152) and HOST_CLOSE (R153). -/

namespace Sys2Proof.Machine

/-- R153: a CLOSED context is as it was; any other is CLOSED at cursor 0. -/
theorem HostContext.close_eq (c : HostContext) :
    c.close = if c.state = .closed then c else { c with state := .closed, cursor := 0 } := by
  unfold HostContext.close
  cases c.state <;> rfl

/-- The host context is no part of the drain (R144). -/
theorem State.answered_setHostContext_settled {s : State} (hs : DrainSettled s) (v : Word) (code : ResultCode)
    (c : HostContext) :
    ((s.answered v code).setHostContext c).settleDrain = (s.answered v code).setHostContext c :=
  State.settleDrain_of_kept hs rfl rfl fun _ _ _ => rfl

/-- R125: a command that loads the host context and completes. -/
theorem State.complete_setHostContext (s : State) (v : Word) (code : ResultCode) (c : HostContext) :
    ((s.takeCommand v).setHostContext c).complete code = (s.answered v code).setHostContext c := by
  rw [← State.complete_takeCommand]
  rfl

section
variable {s : State} (hs : CommandReady s)
include hs

theorem exec_hostOpen_next : exec .hostOpen s = .next ((s.takeCommand 0x0051).hostOpenCommand).settleDrain := by
  rw [exec_hostOpen, busCommand_cmd hs]
  rfl

theorem exec_hostOpen_badIndex (h : 32 ≤ argIndex s.command.args) :
    exec .hostOpen s = .next (s.answered 0x0051 .badIndex) := by
  rw [exec_hostOpen_next hs, State.hostOpenCommand, State.takeCommand_staged, indexOf_eq_none h]
  exact congrArg _ (settleDrain_complete_takeCommand hs _ _)

theorem exec_hostClose_next :
    exec .hostClose s = .next ((s.answered 0x0052 .done).setHostContext s.hostContext.close) := by
  rw [exec_hostClose, busCommand_cmd hs, ← State.answered_setHostContext_settled hs.1.1.2,
    ← State.complete_setHostContext]
  rfl

variable {n : ApIndex} (hn : argIndex s.command.args = n.val)
include hn

theorem exec_hostOpen_noAperture (h : (s.aperture n).isDefined = false) :
    exec .hostOpen s = .next (s.answered 0x0051 .noAperture) := by
  have free : ¬ ((s.takeCommand 0x0051).aperture n).isDefined = true := by
    show ¬ (s.aperture n).isDefined = true
    simp [h]
  rw [exec_hostOpen_next hs, State.hostOpenCommand, State.takeCommand_staged, hn, indexOf_val]
  exact congrArg _ ((congrArg State.settleDrain (if_pos free)).trans (settleDrain_complete_takeCommand hs _ _))

theorem exec_hostOpen_done (h : (s.aperture n).isDefined = true) :
    exec .hostOpen s = .next ((s.answered 0x0051 .done).setHostContext ((s.aperture n).openFor n)) := by
  have isDefined : ((s.takeCommand 0x0051).aperture n).isDefined = true := h
  rw [exec_hostOpen_next hs, State.hostOpenCommand, State.takeCommand_staged, hn, indexOf_val,
    ← State.answered_setHostContext_settled hs.1.1.2, ← State.complete_setHostContext]
  exact congrArg _ (congrArg State.settleDrain (if_neg (not_not_intro isDefined)))

end

/-- Settles O40: the index and the entry decide an open; a close asks for nothing. -/
theorem hostOpenAndCloseResults : Obligations.HostOpenAndCloseResults := by
  intro s hs a taken
  refine ⟨exec_hostOpen_badIndex hs, fun n hn => ⟨exec_hostOpen_noAperture hs hn, exec_hostOpen_done hs hn⟩, ?_⟩
  rw [exec_hostClose_next hs, HostContext.close_eq]
  rfl

end Sys2Proof.Machine

/-! PROOFS. A HOST_DATA access: refused, posted (R154 to R157), and granted (R155, R158, R180). -/

namespace Sys2Proof.Machine

/-! ### The refusal of an access (R156) -/

section
variable {c : HostContext}

theorem HostContext.refusal_closed (h : c.state = .closed) (isWrite : Bool) : c.refusal isWrite = some .notBound := by
  simp only [HostContext.refusal, h]

theorem HostContext.refusal_retired (h : c.state = .retired) (isWrite : Bool) : c.refusal isWrite = some .retired := by
  simp only [HostContext.refusal, h]

theorem HostContext.refusal_ended (h : c.state = .ended) (isWrite : Bool) : c.refusal isWrite = some .apertureEnd := by
  simp only [HostContext.refusal, h]

/-- R156: an OPEN context refuses what its copy gives no right to. -/
theorem HostContext.refusal_opened {k : Copy} (ho : c.state = .opened) (hk : c.copy = some k)
    (isWrite : Bool) :
    c.refusal isWrite = if (if isWrite then k.granted.write else k.granted.read) then none else some .rights := by
  simp only [HostContext.refusal, ho, hk]

theorem HostContext.refusal_of_no_right {k : Copy} (ho : c.state = .opened) (hk : c.copy = some k) (isWrite : Bool)
    (h : (if isWrite then k.granted.write else k.granted.read) = false) : c.refusal isWrite = some .rights := by
  rw [HostContext.refusal_opened ho hk, h]
  rfl

theorem HostContext.refusal_of_right {k : Copy} (ho : c.state = .opened) (hk : c.copy = some k) (isWrite : Bool)
    (h : (if isWrite then k.granted.write else k.granted.read) = true) : c.refusal isWrite = none := by
  rw [HostContext.refusal_opened ho hk, if_pos h]

end

/-- R163, R164: a fault on H sets no report flag and suspends no port: it changes what the fault unit keeps alone. -/
theorem State.raise_hostClaim (s : State) (kind : FaultKind) :
    s.raise (s.hostClaim kind) = s.withSignals (s.takeClaim (s.hostClaim kind)).signals :=
  State.takeClaim_eq s (s.hostClaim kind)

/-- R155: the data lines are driven beside the fault. -/
theorem State.raise_hostClaim_drive (s : State) (kind : FaultKind) (v : Word) :
    (s.raise (s.hostClaim kind)).drive v =
      { s.raise (s.hostClaim kind) with bus := { s.bus with readData := some v } } := by
  rw [State.raise_hostClaim]
  rfl

/-! ### The request of an access (R154, R155) -/

theorem State.postHost_of_copy {s : State} {k : Copy} (hk : s.hostContext.copy = some k) (access : Access)
    (wanted : Bool) :
    s.postHost access wanted =
      { s with
        arbiter := { s.arbiter with
          hostRequest := some { requestAt access none k s.hostContext.cursor with wanted := wanted } } } := by
  simp only [State.postHost, hk]

section
variable {s : State} (hs : BusFree s)
include hs

theorem exec_hostDataWrite_refused {kind : FaultKind} (h : s.hostContext.refusal true = some kind) (v : Word) :
    exec (.hostDataWrite v) s = .next (s.raise (s.hostClaim kind)) := by
  have effect : s.writeCycle .hostData v = s.raise (s.hostClaim kind) := by
    show s.hostWrite v = _
    simp only [State.hostWrite, h]
  rw [State.raise_hostClaim] at effect ⊢
  exact busCommand_write hs effect rfl rfl (State.inFlight_of_ports rfl)

theorem exec_hostDataRead_refused {kind : FaultKind} (h : s.hostContext.refusal false = some kind) (early : Bool) :
    exec (.hostDataRead early) s =
      .next { s.raise (s.hostClaim kind) with bus := { s.bus with readData := some 0 } } := by
  have effect : s.readCycle .hostData early = (s.raise (s.hostClaim kind)).drive 0 := by
    show s.hostRead early = _
    simp only [State.hostRead, h]
  rw [State.raise_hostClaim_drive, State.raise_hostClaim] at effect
  rw [State.raise_hostClaim]
  exact busCommand_read hs effect rfl rfl rfl

variable {k : Copy} (ho : s.hostContext.state = .opened) (hk : s.hostContext.copy = some k)
include ho hk

theorem exec_hostDataWrite_posted (h : k.granted.write = true) (v : Word) :
    exec (.hostDataWrite v) s = .next (s.postHost (.write v) true) := by
  have effect : s.writeCycle .hostData v = s.postHost (.write v) true := by
    show s.hostWrite v = _
    rw [State.hostWrite, HostContext.refusal_of_right ho hk true h]
  rw [State.postHost_of_copy hk] at effect ⊢
  exact busCommand_write hs effect rfl rfl (State.inFlight_of_ports rfl)

theorem exec_hostDataRead_posted (h : k.granted.read = true) (early : Bool) :
    exec (.hostDataRead early) s = .next (s.postHost .read (!early)) := by
  have effect : s.readCycle .hostData early = s.postHost .read (!early) := by
    show s.hostRead early = _
    rw [State.hostRead, HostContext.refusal_of_right ho hk false h]
  rw [State.postHost_of_copy hk] at effect ⊢
  exact busCommand_read hs effect rfl rfl rfl

end

/-! ### The grant of an access (R155, R158, R180) -/

theorem State.advanceHost_eq (s : State) :
    s.advanceHost =
      s.setHostContext (if s.hostContext.state = .opened then s.hostContext.advance else s.hostContext) := by
  unfold State.advanceHost
  split <;> rfl

/-- R154, R158: the grant of a write stores its value, makes the mark test and advances the cursor. -/
theorem State.performHostAccess_write {s : State} {r : Request} {v : Word} (ha : r.access = .write v) :
    s.performHostAccess r =
      { s.writeCell r.row r.column v with
        arbiter := { s.arbiter with granting := none, hostRequest := none }
        marks :=
          if r.marking = true ∧ (s.aperture r.aperture).isDefined = true ∧
              (s.aperture r.aperture).generation = r.generation then
            withMark s.marks r.aperture
          else s.marks
        hostContext := if s.hostContext.state = .opened then s.hostContext.advance else s.hostContext } := by
  simp only [State.performHostAccess, ha]
  rw [State.advanceHost_eq, State.markFor_eq]
  rfl

/-- R155, R180: the grant of a read with no cycle held behind it drives the value that is still wanted. -/
theorem State.performHostAccess_read {s : State} {r : Request} (ha : r.access = .read) (hheld : s.bus.held = []) :
    s.performHostAccess r =
      { s with
        arbiter := { s.arbiter with granting := none, hostRequest := none }
        bus := if r.wanted = true then { s.bus with readData := some (s.cell r.row r.column) } else s.bus
        hostContext := if s.hostContext.state = .opened then s.hostContext.advance else s.hostContext } := by
  simp only [State.performHostAccess, ha, State.advanceHost_eq]
  by_cases hw : r.wanted = true
  · rw [if_pos ⟨hw, hheld⟩, if_pos hw]
    rfl
  · rw [if_neg fun h => hw h.1, if_neg hw]
    rfl

/-- R2, R180: with no cycle held, a grant of HA that leaves the drain, the contexts and the ports as they were is the
access alone. -/
theorem exec_grantPerformed_host {s t : State} {r : Request} (hs : Operating s)
    (hg : s.arbiter.granting = some .host) (hr : s.arbiter.hostRequest = some r) (hheld : s.bus.held = [])
    (ht : s.performHostAccess r = t) (hnone : t.bus.held = []) (hretire : t.retire = s.retire)
    (hcontexts : t.contexts = s.contexts) (hports : t.ports = s.ports) : exec .grantPerformed s = .next t := by
  have empty : t.takeHeld [] = t := by
    rw [State.takeHeld_nil, ← hnone]
  have performed : s.performGrant = t := by
    simp only [State.performGrant, hg, State.performHost, hr, hheld, ht, empty]
  rw [exec_grantPerformed, operate_next hs.1, performed]
  exact congrArg _ (State.settleDrain_of_kept hs.2 hretire hcontexts fun p u _ => State.inFlight_of_ports hports p u)

/-- Settles O47: the state and the right decide between the fault and the request; the access of the request decides
what its grant does. -/
theorem hostDataAccessResult : Obligations.HostDataAccessResult := by
  intro s v early c claim refused
  refine ⟨fun hs => ?_, fun r hs hg hr hheld => ?_⟩
  · have refuses {kind : FaultKind} (h : ∀ isWrite, c.refusal isWrite = some kind) : refused kind :=
      ⟨exec_hostDataWrite_refused hs (h true) v, exec_hostDataRead_refused hs (h false) early⟩
    refine ⟨fun h => refuses (HostContext.refusal_closed h), fun h => refuses (HostContext.refusal_retired h),
      fun h => refuses (HostContext.refusal_ended h), fun k ho hk => ?_⟩
    intro posted
    have asked (access : Access) (wanted : Bool) : s.postHost access wanted = posted access wanted :=
      State.postHost_of_copy hk access wanted
    refine ⟨fun h => ?_, fun h => ?_, fun h => ?_, fun h => ?_⟩
    · exact exec_hostDataWrite_refused hs (HostContext.refusal_of_no_right ho hk true h) v
    · rw [exec_hostDataWrite_posted hs ho hk h, asked]
    · exact exec_hostDataRead_refused hs (HostContext.refusal_of_no_right ho hk false h) early
    · rw [exec_hostDataRead_posted hs ho hk h, asked]
  · intro released moved
    refine ⟨fun w hw => ?_, fun hread => ?_⟩
    · exact exec_grantPerformed_host hs hg hr hheld (State.performHostAccess_write hw) hheld rfl rfl rfl
    · refine exec_grantPerformed_host hs hg hr hheld (State.performHostAccess_read hread hheld) ?_ rfl rfl rfl
      show (if r.wanted = true then _ else s.bus).held = []
      split <;> exact hheld

end Sys2Proof.Machine

/-! PROOFS. The fault unit takes a claim (R164, R166, R169 to R171, R175, R179). -/

namespace Sys2Proof.Machine

/-- R169 to R171: a claim of class 1 or 2 collapses, is inserted at the tail, or is dropped with OVERFLOW set. -/
theorem State.offerClaim_fields (s : State) (c : Claim) :
    let matched := s.faults.queue.any fun r => sameKey r.claim c
    s.offerClaim c =
      { s with
        faults := { s.faults with
          queue :=
            if matched then collapseInto s.faults.queue c
            else if s.faults.queue.length < 16 then s.faults.queue ++ [⟨c, 1⟩]
            else s.faults.queue }
        interrupts := { s.interrupts with
          overflow := s.interrupts.overflow || (!matched && decide (16 ≤ s.faults.queue.length)) } } := by
  unfold State.offerClaim
  split
  · next hmatched => simp [hmatched]
  · next hmatched =>
    split
    · next hroom => simp [hmatched, Nat.not_le.mpr hroom]
    · next hfull => simp [hmatched, Nat.not_lt.mp hfull]

/-- Settles O49: the counter counts in every class, classes 1 and 2 offer the claim to the queue, and class 2 sets the
alert latch. -/
theorem faultUnitTakesAClaim : Obligations.FaultUnitTakesAClaim := by
  intro s c class' counter same matched
  have offered := (s.countClaim c.source).offerClaim_fields c
  have hclass : classIn s.faults.classMap c.kind = class' := rfl
  unfold State.takeClaim
  rw [hclass]
  cases class' with
  | class0 => simp [State.countClaim, ErrorCounter.add, counter]
  | class1 =>
    simp only [offered, show (FaultClass.class1 == .class2) = false from rfl, Bool.or_false]
    rfl
  | class2 =>
    simp only [offered, show (FaultClass.class2 == .class2) = true from rfl, Bool.or_true]
    rfl

end Sys2Proof.Machine

/-! PROOFS. The fault queue and the error counters (R169, R170, R175): which operations leave the fault unit alone,
which hand it claims, and that every step keeps it. -/

namespace Sys2Proof.Machine

/-! ### Operations that leave the fault unit alone -/

theorem foldl_faults {α : Type} {f : State → α → State} (h : ∀ s a, (f s a).faults = s.faults) (l : List α)
    (s : State) : (l.foldl f s).faults = s.faults := by
  induction l generalizing s with
  | nil => rfl
  | cons a l ih => rw [List.foldl_cons, ih, h]

@[simp] theorem State.unitEnded_faults (s : State) (p : Port) (t : Stream) (how : UnitEnd) :
    (s.unitEnded p t how).faults = s.faults := by
  unfold State.unitEnded
  split <;> rfl
@[simp] theorem State.unitsEnded_faults (s : State) (p : Port) (items : List WorkItem) (how : UnitEnd) :
    (s.unitsEnded p items how).faults = s.faults := by
  unfold State.unitsEnded
  exact foldl_faults (fun s i => s.unitEnded_faults p i.stream how) items s
@[simp] theorem State.removeReceiving_faults (s : State) (p : Port) (how : UnitEnd) :
    (s.removeReceiving p how).faults = s.faults := by
  simp [State.removeReceiving]
@[simp] theorem State.skipReceiving_faults (s : State) (p : Port) : (s.skipReceiving p).faults = s.faults := by
  unfold State.skipReceiving
  split <;> rfl
@[simp] theorem State.dropReceiving_faults (s : State) (p : Port) : (s.dropReceiving p).faults = s.faults := by
  simp [State.dropReceiving]
@[simp] theorem State.enterSuspended_faults (s : State) (p : Port) : (s.enterSuspended p).faults = s.faults := by
  simp [State.enterSuspended]
@[simp] theorem State.flagClaim_faults (s : State) (c : Claim) : (s.flagClaim c).faults = s.faults := by
  unfold State.flagClaim
  split <;> rfl
@[simp] theorem State.removeItems_faults (s : State) (p : Port) (chosen told : WorkItem → Bool) :
    (s.removeItems p chosen told).faults = s.faults := by
  simp [State.removeItems]
@[simp] theorem State.cutResponse_faults (s : State) (p : Port) : (s.cutResponse p).faults = s.faults := by
  unfold State.cutResponse
  split
  · dsimp only
    split <;> simp
  · rfl
@[simp] theorem State.settleDrain_faults (s : State) : s.settleDrain.faults = s.faults := by
  obtain h | h | h := s.settleDrain_cases <;> rw [h] <;> rfl
@[simp] theorem State.finishHead_faults (s : State) (p : Port) : (s.finishHead p).faults = s.faults := by
  unfold State.finishHead
  split <;> simp
@[simp] theorem State.disablePort_faults (s : State) (p : Port) : (s.disablePort p).faults = s.faults := by
  simp [State.disablePort]
@[simp] theorem State.writeEnable_faults (s : State) (p : Port) (written : Bool) :
    (s.writeEnable p written).faults = s.faults := by
  unfold State.writeEnable
  split <;> simp [State.enablePort]
@[simp] theorem State.writeEnables_faults (s : State) (v : Word) : (s.writeEnables v).faults = s.faults :=
  foldl_faults (fun s p => s.writeEnable_faults p _) allPorts s
theorem State.takeLineUp_faults (s : State) (p : Port) : (s.takeLineUp p).faults = s.faults := by
  unfold State.takeLineUp
  split <;> rfl
theorem State.loseLine_faults (s : State) (p : Port) : (s.loseLine p).faults = s.faults := by
  have latched (u : State) : (u.setLineLatch p).faults = u.faults := rfl
  simp [State.loseLine, latched]
theorem State.takeLineDown_faults (s : State) (p : Port) : (s.takeLineDown p).faults = s.faults := by
  unfold State.takeLineDown
  split <;> simp [State.loseLine_faults]
@[simp] theorem State.receiveCell_faults (s : State) (p : Port) (v : Word) :
    (s.receiveCell p v).faults = s.faults := by
  unfold State.receiveCell
  split <;> rfl
theorem State.takePayloadByte_faults (s : State) (p : Port) (d : HeaderBits) (taken : Nat) (lastByte : Byte)
    (sum : Word) (b : Byte) : (s.takePayloadByte p d taken lastByte sum b).faults = s.faults := by
  unfold State.takePayloadByte
  split <;> simp [State.setPosition]
@[simp] theorem State.endReturnsIfDone_faults (s : State) (p : Port) :
    (s.endReturnsIfDone p).faults = s.faults := by
  unfold State.endReturnsIfDone
  split <;> rfl
theorem State.startResponse_faults (s : State) (p : Port) : (s.startResponse p).faults = s.faults := by
  unfold State.startResponse
  split <;> simp
@[simp] theorem State.continueReturn_faults (s : State) (p : Port) : (s.continueReturn p).faults = s.faults := by
  unfold State.continueReturn
  (repeat' split) <;> rfl
@[simp] theorem State.beginSized_faults (s : State) (p : Port) (t : Stream) (n : Nat) :
    (s.beginSized p t n).faults = s.faults := by
  unfold State.beginSized
  split <;> simp [State.beginReturn]
theorem State.endReturn_faults (s : State) (p : Port) : (s.endReturn p).faults = s.faults := by
  unfold State.endReturn
  (repeat' split) <;> simp
theorem State.sendReport_faults (s : State) (p : Port) : (s.sendReport p).faults = s.faults := by
  unfold State.sendReport
  (repeat' split) <;> rfl
theorem State.sendAck_faults (s : State) (p : Port) : (s.sendAck p).faults = s.faults := by
  unfold State.sendAck
  (repeat' split) <;> rfl
theorem State.sendEnd_faults (s : State) (p : Port) : (s.sendEnd p).faults = s.faults := by
  unfold State.sendEnd
  split <;> rfl
@[simp] theorem State.advanceFor_faults (s : State) (p : Port) (r : Request) :
    (s.advanceFor p r).faults = s.faults := by
  obtain h | ⟨t, -, h⟩ := s.advanceFor_cases p r <;> rw [h]
  rfl
@[simp] theorem State.markFor_faults (s : State) (r : Request) : (s.markFor r).faults = s.faults := by
  rw [State.markFor_eq]
@[simp] theorem State.cellCommitted_faults (s : State) (p : Port) : (s.cellCommitted p).faults = s.faults := by
  unfold State.cellCommitted
  (repeat' split) <;> simp
@[simp] theorem State.releasePort_faults (s : State) (p : Port) : (s.releasePort p).faults = s.faults := rfl
@[simp] theorem State.placeCell_faults (s : State) (p : Port) (v : Word) :
    (s.placeCell p v).faults = s.faults := rfl
@[simp] theorem State.zeroFillReturn_faults (s : State) (p : Port) (r : CurrentReturn) :
    (s.zeroFillReturn p r).faults = s.faults := by
  have drawn (u : State) : u.drawFree.faults = u.faults := rfl
  simp [State.zeroFillReturn, drawn]
@[simp] theorem State.postHost_faults (s : State) (access : Access) (wanted : Bool) :
    (s.postHost access wanted).faults = s.faults := by
  unfold State.postHost
  split <;> rfl
@[simp] theorem State.advanceHost_faults (s : State) : s.advanceHost.faults = s.faults := by
  unfold State.advanceHost
  split <;> rfl
theorem State.performHostAccess_faults (s : State) (r : Request) : (s.performHostAccess r).faults = s.faults := by
  unfold State.performHostAccess
  split
  · rw [State.advanceHost_faults, State.markFor_faults]
    rfl
  · split <;> rw [State.advanceHost_faults] <;> rfl

/-! ### The fault queue (R169, R170) -/

/-- R170: a collapse changes repeat counts alone. -/
theorem collapseInto_claims (queue : List FaultRecord) (c : Claim) :
    (collapseInto queue c).map FaultRecord.claim = queue.map FaultRecord.claim := by
  rw [collapseInto, List.map_map]
  refine List.map_congr_left fun r _ => ?_
  dsimp only [Function.comp]
  split <;> rfl

/-- R170: a collapse keeps repeat counts within 1..255. -/
theorem collapseInto_repeats {queue : List FaultRecord} (h : ∀ r ∈ queue, 1 ≤ r.repeats ∧ r.repeats ≤ 255) (c : Claim) :
    ∀ r ∈ collapseInto queue c, 1 ≤ r.repeats ∧ r.repeats ≤ 255 := by
  intro r' hr'
  obtain ⟨r, hr, rfl⟩ := List.mem_map.mp hr'
  have bounds := h r hr
  split
  · dsimp only
    omega
  · exact bounds

theorem ErrorCounter.add_count_le {c : ErrorCounter} (h : c.count ≤ 127) : c.add.count ≤ 127 := by
  unfold ErrorCounter.add
  split
  · assumption
  · exact h

end Sys2Proof.Machine

namespace Sys2Proof

open Sys2Proof.Machine

/-! ### The kept fault unit -/

section
variable {s : State} (hs : FaultQueueKept s)
include hs

theorem FaultQueueKept.of_faults {t : State} (h : t.faults = s.faults) : FaultQueueKept t := by
  rwa [FaultQueueKept, h]

theorem FaultQueueKept.withAlert (alert : Bool) :
    FaultQueueKept { s with faults := { s.faults with alert := alert } } := by
  rwa [FaultQueueKept]

theorem FaultQueueKept.withClassMap (classMap : Bank 16 FaultClass) :
    FaultQueueKept { s with faults := { s.faults with classMap := classMap } } := by
  rwa [FaultQueueKept]

theorem FaultQueueKept.withQueue {queue : List FaultRecord} (hlength : queue.length ≤ 16)
    (hkeys : (queue.map FaultRecord.claim).Pairwise fun a b => sameKey a b = false)
    (hrepeats : ∀ r ∈ queue, 1 ≤ r.repeats ∧ r.repeats ≤ 255) :
    FaultQueueKept { s with faults := { s.faults with queue := queue } } := by
  obtain ⟨-, -, -, hcounters⟩ := hs
  exact ⟨hlength, List.pairwise_map.mp hkeys, hrepeats, hcounters⟩

theorem FaultQueueKept.withCounters {counters : Bank 5 ErrorCounter} (h : ∀ k, (counters.get k).count ≤ 127) :
    FaultQueueKept { s with faults := { s.faults with counters := counters } } := by
  obtain ⟨hlength, hkeys, hrepeats, -⟩ := hs
  exact ⟨hlength, hkeys, hrepeats, h⟩

theorem FaultQueueKept.setCounter (k : Fin 5) {x : ErrorCounter} (hx : x.count ≤ 127) :
    FaultQueueKept { s with faults := { s.faults with counters := s.faults.counters.set k x } } := by
  have ⟨_, _, _, hcounters⟩ := hs
  refine hs.withCounters fun j => ?_
  rw [Bank.get_set]
  split
  · exact hx
  · exact hcounters j

/-! ### Claims taken and faults raised -/

theorem FaultQueueKept.countClaim (q : Source) : FaultQueueKept (s.countClaim q) := by
  have ⟨_, _, _, hcounters⟩ := hs
  exact (hs.setCounter q.number (ErrorCounter.add_count_le (hcounters q.number))).of_faults rfl

/-- R169 to R171: a collapse leaves the keys, an insertion brings a new one into a queue with room. -/
theorem FaultQueueKept.offerClaim (c : Claim) : FaultQueueKept (s.offerClaim c) := by
  have ⟨hlength, hkeys, hrepeats, _⟩ := hs
  have hclaims : (s.faults.queue.map FaultRecord.claim).Pairwise fun a b => sameKey a b = false :=
    List.pairwise_map.mpr hkeys
  unfold State.offerClaim
  split
  · refine hs.withQueue ?_ ?_ (collapseInto_repeats hrepeats c)
    · rwa [collapseInto, List.length_map]
    · rwa [collapseInto_claims]
  · next hnew =>
    split
    · next hroom =>
      refine hs.withQueue ?_ ?_ ?_
      · rw [List.length_append]
        exact hroom
      · rw [List.map_append]
        refine List.pairwise_append.mpr ⟨hclaims, List.pairwise_singleton _ _, fun a ha b hb => ?_⟩
        obtain ⟨r, hr, rfl⟩ := List.mem_map.mp ha
        rw [List.mem_singleton.mp hb]
        exact Bool.eq_false_iff.mpr fun hsame => hnew (List.any_eq_true.mpr ⟨r, hr, hsame⟩)
      · intro r hr
        obtain hr | hr := List.mem_append.mp hr
        · exact hrepeats r hr
        · rw [List.mem_singleton.mp hr]
          simp
    · exact hs.of_faults rfl

theorem FaultQueueKept.takeClaim (c : Claim) : FaultQueueKept (s.takeClaim c) := by
  unfold State.takeClaim
  split
  · exact hs.countClaim _
  · exact (hs.countClaim _).offerClaim c
  · exact ((hs.countClaim _).offerClaim c).withAlert true

theorem FaultQueueKept.raiseSuspended (p : Port) : FaultQueueKept (s.raiseSuspended p) :=
  FaultQueueKept.takeClaim (hs.of_faults (s.setReportFlag_faults p _)) _

theorem FaultQueueKept.classTwoAction (c : Claim) : FaultQueueKept (s.classTwoAction c) := by
  unfold State.classTwoAction
  split
  · exact hs
  · split
    · exact FaultQueueKept.raiseSuspended (hs.of_faults (by simp)) _
    · exact hs

theorem FaultQueueKept.raise (c : Claim) : FaultQueueKept (s.raise c) :=
  ((hs.of_faults (s.flagClaim_faults c)).takeClaim c).classTwoAction c

theorem FaultQueueKept.raiseAll (cs : List Claim) : FaultQueueKept (s.raiseAll cs) :=
  List.foldlRecOn cs State.raise hs fun _ hu c _ => hu.raise c

theorem FaultQueueKept.setPort (p : Port) (x : PortState) : FaultQueueKept (s.setPort p x) := hs.of_faults rfl

/-! ### The decoder -/

theorem FaultQueueKept.removeReceiving (p : Port) (how : UnitEnd) : FaultQueueKept (s.removeReceiving p how) :=
  hs.of_faults (s.removeReceiving_faults p how)

theorem FaultQueueKept.closeBurst (p : Port) : FaultQueueKept (s.closeBurst p) := by
  have handed {u : State} (hu : FaultQueueKept u) (turnSeen : Bool) :
      FaultQueueKept (if turnSeen then u.handTurn p else u) := by
    split
    · exact hu.setPort p _
    · exact hu
  unfold State.closeBurst
  split
  · exact hs
  · next b _ =>
    have dropped : FaultQueueKept ((s.removeReceiving p .drained).dropBurst p) :=
      (hs.removeReceiving p .drained).setPort p _
    refine handed ?_ b.turnSeen
    split
    · exact dropped
    · exact dropped.raise _

theorem FaultQueueKept.takeBurstStart (p : Port) : FaultQueueKept (s.takeBurstStart p) := by
  have closed := hs.closeBurst p
  unfold State.takeBurstStart
  split
  · dsimp only
    split
    · exact closed.setPort p _
    · exact closed
  · exact hs

theorem FaultQueueKept.takeBurstEnd (p : Port) : FaultQueueKept (s.takeBurstEnd p) := by
  unfold State.takeBurstEnd
  split
  · exact hs.closeBurst p
  · exact hs

theorem FaultQueueKept.takeCodeViolation (p : Port) : FaultQueueKept (s.takeCodeViolation p) := by
  have broken (x : PortState) : FaultQueueKept ((s.removeReceiving p .drained).setPort p x) :=
    (hs.removeReceiving p .drained).setPort p x
  unfold State.takeCodeViolation
  split
  · split
    · exact hs
    · split
      · exact hs
      all_goals
        dsimp only
        split
        · exact broken _
        · exact (broken _).raise _
  · exact hs

theorem FaultQueueKept.expireReceive (p : Port) : FaultQueueKept (s.expireReceive p) := by
  unfold State.expireReceive
  split
  · exact ((hs.removeReceiving p .drained).setPort p _).raise _
  · exact hs

theorem FaultQueueKept.offerPacket (p : Port) (kind : ItemKind) (d : HeaderBits) :
    FaultQueueKept (s.offerPacket p kind d) := by
  unfold State.offerPacket
  split
  · exact (hs.raise _).setPort p _
  · exact hs.of_faults rfl

theorem FaultQueueKept.takeLimit (p : Port) (d : HeaderBits) : FaultQueueKept (s.takeLimit p d) := by
  unfold State.takeLimit
  split
  · exact hs.setPort p _
  · exact hs.raise _

theorem FaultQueueKept.deliver (p : Port) (type : PacketType) (d : HeaderBits) :
    FaultQueueKept (s.deliver p type d) := by
  cases type with
  | nop => exact hs.of_faults rfl
  | limit => exact ((hs.takeLimit p d).setPort p _).setPort p _
  | turn => exact hs.of_faults rfl
  | pad => exact hs.setPort p _
  | start => exact hs.offerPacket p _ d
  | stop => exact hs.offerPacket p _ d
  | read => exact hs.offerPacket p _ d
  | write =>
    have offered := hs.offerPacket p .write d
    simp only [State.deliver, State.deliverWrite]
    split
    · exact offered.of_faults (State.dropReceiving_faults _ p)
    · exact offered

theorem FaultQueueKept.checkSequence (p : Port) (d : HeaderBits) : FaultQueueKept (s.checkSequence p d) := by
  unfold State.checkSequence
  refine FaultQueueKept.setPort ?_ p _
  split
  · exact hs
  · split
    · exact hs
    · exact hs.raise _

theorem FaultQueueKept.acceptHeader (p : Port) (found : Mode) (turnSeen : Bool) (d : HeaderBits) :
    FaultQueueKept (s.acceptHeader p found turnSeen d) := by
  unfold State.acceptHeader
  split
  · exact (hs.raise _).setPort p _
  · exact (hs.raise _).setPort p _
  · split
    · exact hs.setPort p _
    · exact hs.deliver p _ d

theorem FaultQueueKept.takeHeader (p : Port) (turnSeen : Bool) (d : HeaderBits) (check : Byte) :
    FaultQueueKept (s.takeHeader p turnSeen d check) := by
  unfold State.takeHeader
  dsimp only
  split
  · exact (hs.checkSequence p _).acceptHeader p _ _ _
  · exact ((hs.raise _).checkSequence p _).acceptHeader p _ _ _
  · exact (hs.raise _).setPort p _

theorem FaultQueueKept.compareSum (p : Port) (d : HeaderBits) (sum received : Word) :
    FaultQueueKept (s.compareSum p d sum received) := by
  unfold State.compareSum
  refine FaultQueueKept.setPort ?_ p _
  split
  · split
    · exact hs.setPort p _
    · exact (hs.removeReceiving p .drained).raise _
  · split
    · exact hs.setPort p _
    · exact hs.raise _

theorem FaultQueueKept.takeByte (p : Port) (b : Byte) : FaultQueueKept (s.takeByte p b) := by
  unfold State.takeByte
  split
  · split
    · exact hs
    · unfold State.takeByteIn
      split
      · exact hs.takeHeader p _ _ _
      · exact hs.setPort p _
      · exact hs.of_faults (s.takePayloadByte_faults p _ _ _ _ _)
      · exact hs.setPort p _
      · exact hs.compareSum p _ _ _
      · exact hs.setPort p _
      · exact hs
  · exact hs

/-! ### Work items -/

theorem FaultQueueKept.finishHead (p : Port) : FaultQueueKept (s.finishHead p) := hs.of_faults (s.finishHead_faults p)

theorem FaultQueueKept.executeStart (p : Port) : FaultQueueKept (s.executeStart p) := by
  unfold State.executeStart
  split
  · exact hs
  · next i _ =>
    refine FaultQueueKept.finishHead ?_ p
    unfold State.startEffect
    split
    · exact hs.raise _
    · split
      · exact hs.raise _
      · next b _ =>
        have loaded : FaultQueueKept (s.loadContext p i.stream b) := hs.of_faults rfl
        split
        · exact hs.raise _
        · split
          · exact loaded
          · split
            · exact hs
            · exact loaded.raise _

theorem FaultQueueKept.executeStop (p : Port) : FaultQueueKept (s.executeStop p) := by
  unfold State.executeStop
  split
  · exact hs
  · refine FaultQueueKept.finishHead ?_ p
    unfold State.stopEffect
    split
    · exact hs.raise _
    · split
      · exact hs.raise _
      · exact hs.of_faults rfl
      · exact hs.of_faults rfl
      · exact hs
      · exact hs.raise _

theorem FaultQueueKept.joinReturns (p : Port) (i : WorkItem) : FaultQueueKept (s.joinReturns p i) := by
  unfold State.joinReturns
  split
  · exact hs
  · split
    · exact hs.setPort p _
    · exact hs.raise _

theorem FaultQueueKept.executeRead (p : Port) : FaultQueueKept (s.executeRead p) := by
  unfold State.executeRead
  split
  · exact hs
  · refine FaultQueueKept.finishHead ?_ p
    unfold State.readEffect
    split
    · exact hs.raise _
    · split
      · exact hs.raise _
      · split
        · exact hs.joinReturns p _
        · exact hs.raise _
      all_goals exact hs.raise _

theorem FaultQueueKept.continueCommit (p : Port) : FaultQueueKept (s.continueCommit p) := by
  unfold State.continueCommit
  split
  · exact hs
  · split
    · exact hs
    · exact hs
    · split
      · exact hs
      · split
        · exact hs.finishHead p
        · split
          · exact (hs.raise _).finishHead p
          · split
            · exact hs
            · exact hs.of_faults rfl

theorem FaultQueueKept.executeWrite (p : Port) : FaultQueueKept (s.executeWrite p) := by
  unfold State.executeWrite
  split
  · exact hs
  · split
    · exact (hs.raise _).finishHead p
    · exact (hs.setPort p _).continueCommit p

/-! ### Responses and the grants of a port -/

theorem FaultQueueKept.takeEntry (p : Port) : FaultQueueKept (s.takeEntry p) := by
  unfold State.takeEntry
  split
  · split
    · exact hs.setPort p _
    · next rest _ =>
      have taken := hs.setPort p { s.port p with returns := rest }
      unfold State.serveEntry
      split
      · exact (taken.raise _).of_faults (State.endReturnsIfDone_faults _ p)
      · exact (taken.raiseAll _).of_faults (State.beginSized_faults _ p _ _)
  · exact hs

theorem FaultQueueKept.performPort (p : Port) : FaultQueueKept (s.performPort p) := by
  unfold State.performPort
  split
  · exact hs.of_faults rfl
  · next r _ =>
    dsimp only
    split
    · exact FaultQueueKept.continueCommit (hs.of_faults (by simp)) p
    · refine (FaultQueueKept.continueCommit (hs.of_faults ?_) p).of_faults (State.continueReturn_faults _ p)
      split <;> simp

/-! ### Retirement -/

theorem FaultQueueKept.settleDrain : FaultQueueKept s.settleDrain := hs.of_faults s.settleDrain_faults

theorem FaultQueueKept.retireTake (x : Scope) : FaultQueueKept (s.retireTake x) := by
  have taken : FaultQueueKept (s.taken x) := hs.of_faults rfl
  rw [State.retireTake_eq]
  exact taken.raiseAll _

/-- R140: the abort raises RETIRED for a RETURN that it cuts short. -/
theorem FaultQueueKept.abortContext (h : Port × Stream) : FaultQueueKept (s.abortContext h) := by
  unfold State.abortContext
  split
  · dsimp only
    split
    · refine hs.of_faults ?_
      split <;> simp
    · refine FaultQueueKept.raise (hs.of_faults ?_) _
      split <;> simp
  · exact hs

theorem FaultQueueKept.abortRetiring : FaultQueueKept s.abortRetiring :=
  List.foldlRecOn allHeads State.abortContext hs fun _ hu h _ => hu.abortContext h

theorem FaultQueueKept.expireDrain : FaultQueueKept s.expireDrain := by
  unfold State.expireDrain
  split
  · exact hs.abortRetiring.of_faults (State.completeRetire_faults _ _)
  · exact hs

/-! ### Commands of the command unit -/

theorem FaultQueueKept.complete (code : ResultCode) : FaultQueueKept (s.complete code) := hs.of_faults rfl

theorem FaultQueueKept.retireCommand : FaultQueueKept s.retireCommand := by
  unfold State.retireCommand
  split
  · exact hs.complete _
  · next x _ =>
    have taken := hs.retireTake x
    have begun (u : State) : u.beginDrain.faults = u.faults := rfl
    split
    · exact hs.complete _
    · split
      · exact taken.of_faults (begun _)
      · exact taken.abortRetiring.of_faults (State.completeRetire_faults _ _)

theorem FaultQueueKept.suspendByCommand (p : Port) : FaultQueueKept (s.suspendByCommand p) := by
  unfold State.suspendByCommand
  split
  · exact (hs.of_faults (s.enterSuspended_faults p)).raiseSuspended p
  · exact hs

/-- R78: RESET_PORT clears the error counter of the port. -/
theorem FaultQueueKept.resetOnePort (p : Port) : FaultQueueKept (s.resetOnePort p) := by
  have cleared {u : State} (hu : FaultQueueKept u) : FaultQueueKept (u.clearPort p) :=
    (hu.setPort p _).setCounter _ (Nat.zero_le _)
  unfold State.resetOnePort
  split
  · exact cleared ((hs.of_faults (s.disablePort_faults p)).setPort p _)
  · exact cleared hs

theorem FaultQueueKept.runCommand (c : Option Command) : FaultQueueKept (s.runCommand c) := by
  cases c with
  | none => exact hs.complete _
  | some c =>
    cases c with
    | retire => exact hs.retireCommand
    | suspendPort =>
      simp only [State.runCommand, State.suspendCommand]
      split
      · exact hs.complete _
      · exact (hs.suspendByCommand _).complete _
    | resetPort =>
      simp only [State.runCommand, State.resetPortCommand]
      split
      · exact hs.complete _
      · exact (hs.resetOnePort _).complete _
    | defineAperture =>
      simp only [State.runCommand, State.defineCommand]
      split <;> exact hs.of_faults rfl
    | clearAperture =>
      simp only [State.runCommand, State.clearCommand]
      (repeat' split) <;> exact hs.of_faults rfl
    | bind =>
      simp only [State.runCommand, State.bindCommand]
      (repeat' split) <;> exact hs.of_faults rfl
    | unbind =>
      simp only [State.runCommand, State.unbindCommand]
      (repeat' split) <;> exact hs.of_faults rfl
    | resumePort =>
      simp only [State.runCommand, State.resumeCommand]
      (repeat' split) <;> exact hs.of_faults rfl
    | hostOpen =>
      simp only [State.runCommand, State.hostOpenCommand]
      (repeat' split) <;> exact hs.of_faults rfl
    | hostClose => exact hs.of_faults rfl

theorem FaultQueueKept.writeCmd (v : Word) : FaultQueueKept (s.writeCmd v) := by
  unfold State.writeCmd
  split
  · exact hs.of_faults rfl
  · exact FaultQueueKept.runCommand (hs.of_faults (t := s.takeCommand v) rfl) _

/-! ### Bus cycles and the grants of the host -/

/-- R84, R174: a soft reset completes a port's grant in progress and clears the error counters; the queue stays. -/
theorem FaultQueueKept.softResetAll : FaultQueueKept s.softResetAll := by
  have finished : FaultQueueKept s.finishGrant := by
    unfold State.finishGrant
    split
    · exact (hs.performPort _).settleDrain
    · exact hs
    · exact hs
  refine (finished.withCounters (counters := Bank.fill 5 ⟨0, false⟩) fun k => ?_).of_faults rfl
  rw [Bank.get_fill]
  exact Nat.zero_le _

/-- R172: FAULT_POP leaves the tail of the queue. -/
theorem FaultQueueKept.popFault : FaultQueueKept s.popFault := by
  have ⟨hlength, hkeys, hrepeats, _⟩ := hs
  refine hs.withQueue ?_ (List.pairwise_map.mpr hkeys.tail) fun r hr => hrepeats r (List.mem_of_mem_tail hr)
  rw [List.length_tail]
  omega

theorem FaultQueueKept.writeCycle (r : Register) (v : Word) : FaultQueueKept (s.writeCycle r v) := by
  cases r with
  | control =>
    simp only [State.writeCycle, State.writeControl]
    split
    · exact hs.softResetAll
    · exact hs.of_faults (s.writeEnables_faults v)
  | cmd => exact hs.writeCmd v
  | faultCount => exact hs.popFault
  | alert => exact hs.withAlert _
  | classMap hi => exact hs.withClassMap _
  | hostData =>
    simp only [State.writeCycle, State.hostWrite]
    split
    · exact hs.raise _
    · exact hs.of_faults (s.postHost_faults _ _)
  | ctxSelect =>
    simp only [State.writeCycle, State.writeCtxSelect]
    split <;> exact hs.of_faults rfl
  | _ => exact hs.of_faults rfl

/-- R176: the read of an error counter clears it. -/
theorem FaultQueueKept.readCycle (r : Register) (released : Bool) : FaultQueueKept (s.readCycle r released) := by
  cases r with
  | errorCounter q => exact (hs.setCounter q.number (Nat.zero_le _)).of_faults rfl
  | hostData =>
    simp only [State.readCycle, State.hostRead]
    split
    · exact (hs.raise _).of_faults rfl
    · exact hs.of_faults (s.postHost_faults _ _)
  | ctxCursor hi => cases hi <;> exact hs.of_faults rfl
  | hostCursor hi => cases hi <;> exact hs.of_faults rfl
  | _ => exact hs.of_faults rfl

theorem FaultQueueKept.takeCycle (c : BusCycle) : FaultQueueKept (s.takeCycle c) := by
  cases c with
  | read r released => exact (hs.readCycle r released).settleDrain
  | write r v => exact (hs.writeCycle r v).settleDrain

theorem FaultQueueKept.takeHeldCycle (c : BusCycle) (behind : List BusCycle) :
    FaultQueueKept (s.takeHeldCycle c behind) := by
  have taken := hs.takeCycle c
  unfold State.takeHeldCycle
  split
  · exact taken.of_faults rfl
  · exact taken

omit hs in
theorem FaultQueueKept.takeHeld (held : List BusCycle) :
    ∀ {s : State}, FaultQueueKept s → FaultQueueKept (s.takeHeld held) := by
  induction held with
  | nil => exact fun hs => hs.of_faults rfl
  | cons c rest ih =>
    intro s hs
    have taken := hs.takeHeldCycle c rest
    rw [State.takeHeld_cons]
    split
    · exact taken.of_faults rfl
    · exact ih taken

theorem FaultQueueKept.performGrant : FaultQueueKept s.performGrant := by
  unfold State.performGrant
  split
  · exact hs
  · exact hs.performPort _
  · unfold State.performHost
    split
    · exact hs.of_faults rfl
    · exact FaultQueueKept.takeHeld _ (hs.of_faults (s.performHostAccess_faults _))

/-! ### The step -/

theorem FaultQueueKept.driveReset (asserted : Bool) : FaultQueueKept (s.driveReset asserted) := by
  cases asserted with
  | true =>
    obtain ⟨-, hreset, -⟩ := powerOnStateIsKept
    exact hreset.of_faults rfl
  | false => exact hs.of_faults rfl

theorem FaultQueueKept.of_operate {t : State} {c : Instr} {effect : State → State} (hc : exec c s = operate s effect)
    (he : FaultQueueKept (effect s)) (h : exec c s = .next t) : FaultQueueKept t := by
  rw [hc] at h
  unfold operate at h
  split at h <;> cases h
  · exact hs
  · exact he.settleDrain

theorem FaultQueueKept.of_busCommand {t : State} {c : BusCycle} (h : busCommand s c = .next t) : FaultQueueKept t := by
  unfold busCommand State.hostCycle at h
  (repeat' split at h) <;> cases h
  · exact hs
  · exact hs.of_faults rfl
  · exact hs.takeCycle c

theorem FaultQueueKept.of_exec {t : State} (c : Instr) (h : exec c s = .next t) : FaultQueueKept t := by
  cases c with
  | powerOnReset asserted =>
    cases h
    exact hs.driveReset asserted
  | lineUp p => exact hs.of_operate (exec_lineUp p s) (hs.of_faults (s.takeLineUp_faults p)) h
  | lineDown p => exact hs.of_operate (exec_lineDown p s) (hs.of_faults (s.takeLineDown_faults p)) h
  | burstStart p => exact hs.of_operate (exec_burstStart p s) (hs.takeBurstStart p) h
  | byte p b => exact hs.of_operate (exec_byte p b s) (hs.takeByte p b) h
  | burstEnd p => exact hs.of_operate (exec_burstEnd p s) (hs.takeBurstEnd p) h
  | codeViolation p => exact hs.of_operate (exec_codeViolation p s) (hs.takeCodeViolation p) h
  | receiveTimeout p => exact hs.of_operate (exec_receiveTimeout p s) (hs.expireReceive p) h
  | startItem p => exact hs.of_operate (exec_startItem p s) (hs.executeStart p) h
  | stopItem p => exact hs.of_operate (exec_stopItem p s) (hs.executeStop p) h
  | readItem p => exact hs.of_operate (exec_readItem p s) (hs.executeRead p) h
  | writeItem p => exact hs.of_operate (exec_writeItem p s) (hs.executeWrite p) h
  | arbiterGrant => exact hs.of_operate (exec_arbiterGrant s) (hs.of_faults rfl) h
  | grantPerformed => exact hs.of_operate (exec_grantPerformed s) hs.performGrant h
  | responseStart p => exact hs.of_operate (exec_responseStart p s) (hs.of_faults (s.startResponse_faults p)) h
  | returnEntryTake p => exact hs.of_operate (exec_returnEntryTake p s) (hs.takeEntry p) h
  | returnEnd p => exact hs.of_operate (exec_returnEnd p s) (hs.of_faults (s.endReturn_faults p)) h
  | reportSent p => exact hs.of_operate (exec_reportSent p s) (hs.of_faults (s.sendReport_faults p)) h
  | ackSent p => exact hs.of_operate (exec_ackSent p s) (hs.of_faults (s.sendAck_faults p)) h
  | endSymbolSent p => exact hs.of_operate (exec_endSymbolSent p s) (hs.of_faults (s.sendEnd_faults p)) h
  | drainTimerExpiry => exact hs.of_operate (exec_drainTimerExpiry s) hs.expireDrain h
  | _ => exact hs.of_busCommand h

theorem FaultQueueKept.tickReceive (p : Port) : FaultQueueKept (s.tickReceive p) := by
  have counted : FaultQueueKept (s.countReceive p) := hs.setPort p _
  unfold State.tickReceive
  split
  · exact (counted.expireReceive p).settleDrain
  · exact counted

theorem FaultQueueKept.tick : FaultQueueKept s.tick := by
  unfold State.tick
  split
  · exact hs
  · have received : FaultQueueKept (allPorts.foldl State.tickReceive s) :=
      List.foldlRecOn allPorts State.tickReceive hs fun _ hu p _ => hu.tickReceive p
    have counts (u : State) : u.countDrain.faults = u.faults := rfl
    have counting := received.of_faults (counts _)
    unfold State.tickDrain
    split
    · exact counting.expireDrain
    · exact counting

end

/-- Settles O55: a step changes the fault unit by claims taken, FAULT_POP, the clearing of counters, and writes to ALERT
and CLASS_MAP; each keeps it. -/
theorem faultQueueKeptByEveryStep : Obligations.FaultQueueKeptByEveryStep := by
  intro s t hs h
  unfold step at h
  split at h
  · cases h
    exact hs.tick
  · next c rest _ => exact FaultQueueKept.of_exec (hs.of_faults (t := { s with pending := rest }) rfl) c h

end Sys2Proof

/-! PROOFS. The formats of the staged arguments (R186): each packed word gives back its fields. A width that is a sum
stays a sum (`-Nat.reduceAdd`), so that the library's rules for fields side by side apply. -/

namespace Sys2Proof.Machine

section
variable {v : Word}

/-- R186: ARG0 of the commands with a target. -/
theorem targetWord_fields {port stream : BitVec 3} {n : BitVec 6} {x1 x2 : BitVec 1} {x3 : BitVec 2}
    (h : v = x3 ++ n ++ x2 ++ stream ++ x1 ++ port) :
    v.extractLsb' 0 3 = port ∧ v.extractLsb' 4 3 = stream ∧ v.extractLsb' 8 6 = n := by
  rw [h]
  refine ⟨BitVec.extractLsb'_append_eq_right, ?_, ?_⟩ <;>
    · rw [BitVec.extractLsb'_append_eq_of_le (by decide)]
      simp [-Nat.reduceAdd, BitVec.extractLsb'_append_eq_of_le, BitVec.extractLsb'_append_eq_right]

/-- R186: ARG1 of BIND. -/
theorem rightsWord_bits {read write : Bool} {z : BitVec 14} (h : v = z ++ BitVec.ofBool write ++ BitVec.ofBool read) :
    v.getLsbD 0 = read ∧ v.getLsbD 1 = write := by
  constructor <;>
    · rw [h, BitVec.getLsbD_append]
      simp [-Nat.reduceAdd, -BitVec.getLsbD_eq_getElem, BitVec.getLsbD_append, BitVec.getLsbD_ofBool]

/-- R186: ARG1 of RETIRE. -/
theorem scopeWord_fields {scope : BitVec 3} {drain : Bool} {y : BitVec 7} {z : BitVec 5}
    (h : v = y ++ BitVec.ofBool drain ++ z ++ scope) : v.extractLsb' 0 3 = scope ∧ v.getLsbD 8 = drain := by
  rw [h, BitVec.getLsbD_append]
  refine ⟨BitVec.extractLsb'_append_eq_right, ?_⟩
  simp [-Nat.reduceAdd, -BitVec.getLsbD_eq_getElem, BitVec.getLsbD_append, BitVec.getLsbD_ofBool]

/-- R186: ARG1 of DEFINE_APERTURE, above its column. -/
theorem optionsWord_bits {top write read policy order : Bool} {column : BitVec 11}
    (h : v = BitVec.ofBool top ++ BitVec.ofBool write ++ BitVec.ofBool read ++ BitVec.ofBool policy ++
      BitVec.ofBool order ++ column) :
    v.getLsbD 11 = order ∧ v.getLsbD 12 = policy ∧ v.getLsbD 13 = read ∧ v.getLsbD 14 = write ∧
      v.getLsbD 15 = top := by
  and_intros <;>
    · rw [h, BitVec.getLsbD_append]
      simp [-Nat.reduceAdd, -BitVec.getLsbD_eq_getElem, BitVec.getLsbD_append, BitVec.getLsbD_ofBool]

/-- R12, R186: the eleven bits of a column or of the mark, and the ten of a column that a geometry keeps. -/
theorem columnWord_fields {x : BitVec 5} {column : BitVec 11} (h : v = x ++ column) :
    v.extractLsb' 0 11 = column ∧ v.extractLsb' 0 10 = column.extractLsb' 0 10 ∧ v.extractLsb' 11 5 = x := by
  rw [h]
  exact ⟨BitVec.extractLsb'_append_eq_right, BitVec.extractLsb'_append_eq_of_add_le (by decide),
    BitVec.extractLsb'_append_eq_left⟩

/-- R186: ARG0 of DEFINE_APERTURE. -/
theorem rowsWord_fields {lastRow firstRow : Byte} (h : v = lastRow ++ firstRow) :
    v.extractLsb' 0 8 = firstRow ∧ v.extractLsb' 8 8 = lastRow := by
  rw [h]
  exact ⟨BitVec.extractLsb'_append_eq_right, BitVec.extractLsb'_append_eq_left⟩

end

/-- R186: n of DEFINE_APERTURE is split, its top bit apart from the other five. -/
theorem splitIndex_toNat (n : BitVec 6) :
    (if n.getLsbD 5 then 32 else 0) + (n.extractLsb' 0 5).toNat = n.toNat := by
  have hn := n.isLt
  have top : n.getLsbD 5 = decide (n.toNat / 32 % 2 = 1) := by
    simp [BitVec.getLsbD, Nat.testBit_eq_decide_div_mod_eq]
  have low : (n.extractLsb' 0 5).toNat = n.toNat % 32 := by simp
  rw [top, low]
  simp only [decide_eq_true_eq]
  split <;> omega

/-- Settles O34: the format of each argument word gives its fields. -/
theorem stagedArgumentFieldsAreReadAsPacked : Obligations.StagedArgumentFieldsAreReadAsPacked := by
  refine ⟨fun a firstRow lastRow firstColumn lastColumn mark n order policy read write spare h0 h1 h2 h3 => ?_,
    fun a port stream scope n read write drain x1 x2 x3 y h0 => ?_⟩
  · obtain ⟨first, firstNarrow, -⟩ := columnWord_fields (v := a.get 1) h1
    obtain ⟨last, lastNarrow, low⟩ := columnWord_fields h2
    obtain ⟨hmark, -, -⟩ := columnWord_fields h3
    obtain ⟨hfirst, hlast⟩ := rowsWord_fields h0
    obtain ⟨hOrder, hPolicy, hRead, hWrite, top⟩ := optionsWord_bits h1
    simp only [defineIndex, defineFirstColumn, defineLastColumn, defineRights, defineGeometry, first, firstNarrow, last,
      lastNarrow, low, hmark, hfirst, hlast, hOrder, hPolicy, hRead, hWrite, top, splitIndex_toNat, and_self]
  · obtain ⟨hport, hstream, hindex⟩ := targetWord_fields h0
    simp only [argPort, argStream, argIndex, argRights, argScope, argDrain, hport, hstream, hindex, true_and]
    refine ⟨fun z h => ?_, fun z h => ?_⟩
    · obtain ⟨hread, hwrite⟩ := rightsWord_bits h
      rw [hread, hwrite]
    · obtain ⟨hscope, hdrain⟩ := scopeWord_fields h
      rw [hscope, hdrain]
      exact ⟨rfl, rfl⟩

end Sys2Proof.Machine

/-! PROOFS. The bus cycles held behind a HOST_DATA request, and their taking after its grant (R180, log entry 17). -/

namespace Sys2Proof.Machine

/-! ### The access with cycles held behind it -/

/-- R155, R180: a cycle held behind a read shows its strobe released, so its grant drives nothing. -/
theorem State.performHostAccess_read_behind {s : State} {r : Request} (ha : r.access = .read)
    (hheld : s.bus.held ≠ []) :
    s.performHostAccess r =
      { s with
        arbiter := { s.arbiter with granting := none, hostRequest := none }
        hostContext := if s.hostContext.state = .opened then s.hostContext.advance else s.hostContext } := by
  have ended : ¬ (r.wanted = true ∧ s.bus.held = []) := fun h => hheld h.2
  simp only [State.performHostAccess, ha, if_neg ended, State.advanceHost_eq]
  rfl

/-! ### How far the held cycles are taken -/

/-- R180: only the last held cycle, its strobe not released, is taken as a cycle that has not ended. -/
theorem State.takeHeldCycle_eq (s : State) (c : BusCycle) (behind : List BusCycle) :
    s.takeHeldCycle c behind =
      if behind = [] ∧ c.isReleased = false then s.takeCycle c else s.takeEndedCycle c := by
  by_cases hb : behind = []
  · rw [hb, State.takeHeldCycle_last]
    cases c.isReleased <;> rfl
  · rw [State.takeHeldCycle_behind s c hb, if_neg fun h => hb h.1]

/-- R180: the last held cycle, or one that posts a request, leaves held what stands behind it. -/
theorem State.takeHeld_stops {s : State} {c : BusCycle} {behind : List BusCycle}
    (h : behind = [] ∨ (s.takeHeldCycle c behind).arbiter.hostRequest ≠ none) :
    s.takeHeld (c :: behind) =
      { s.takeHeldCycle c behind with bus := { (s.takeHeldCycle c behind).bus with held := behind } } := by
  rw [State.takeHeld_cons]
  split
  · rfl
  · next unposted =>
    obtain rfl | posted := h
    · rfl
    · exact absurd (Option.isSome_iff_ne_none.mpr posted) unposted

/-- R2, R180: the grant of HA's request is the access, then the held cycles. -/
theorem exec_grantPerformed_takeHeld {s : State} {r : Request} (hs : s.inReset = false)
    (hg : s.arbiter.granting = some .host) (hr : s.arbiter.hostRequest = some r) :
    exec .grantPerformed s = .next ((s.performHostAccess r).takeHeld s.bus.held).settleDrain := by
  rw [exec_grantPerformed, operate_next hs]
  simp only [State.performGrant, hg, State.performHost, hr]

/-- Settles O48: each row is a bus cycle, and what WAIT does is the same for every cycle. After the grant the cycles
ahead of `c` have ended, and `c` is the last one taken. -/
theorem cyclesBehindAHostDataRequestAreHeld : Obligations.CyclesBehindAHostDataRequestAreHeld := by
  refine ⟨fun v hi q offset early => ?_, fun s r ahead c behind hs hg hr hheld => ?_⟩
  · intro rows
    have cycleOfRow : ∀ x ∈ rows, ∀ s, exec x.1 s = busCommand s x.2 := by
      simp only [rows, List.forall_mem_cons, List.not_mem_nil, false_imp_iff, implies_true, and_true]
      and_intros <;> exact fun _ => rfl
    refine ⟨fun s hreset hreq => ?_, fun s hreset hreq => ?_⟩
    · intro held
      refine ⟨?_, fun x hx => (cycleOfRow x hx s).trans ?_, busCommand_held hreset hreq _⟩
      · simp [State.wait, hreset, Option.isSome_iff_ne_none, hreq]
      · exact busCommand_held hreset hreq x.2
    · refine ⟨fun x hx => (cycleOfRow x hx s).trans ?_, busCommand_next hreset hreq _⟩
      exact busCommand_next hreset hreq x.2
  · intro access undriven early before after hahead hlast
    have granted : s.performHostAccess r = access := by
      cases ha : r.access with
      | write v =>
        rw [State.performHostAccess_write ha]
        simp only [access, ha, ne_eq, reduceCtorEq, not_false_eq_true, true_and]
        rfl
      | read =>
        rw [State.performHostAccess_read_behind ha (by simp [hheld])]
        simp only [access, ha, ne_eq, not_true_eq_false, false_and, if_false]
    have released : early = c.isReleased := by cases c <;> rfl
    have taken : before.takeHeldCycle c behind = after := by
      rw [State.takeHeldCycle_eq, ← released]
      rfl
    have stops : before.takeHeld (c :: behind) = { after with bus := { after.bus with held := behind } } := by
      rw [← taken] at hlast ⊢
      exact State.takeHeld_stops hlast
    rw [exec_grantPerformed_takeHeld hs.1 hg hr, granted, hheld, State.takeHeld_append access ahead c behind hahead]
    exact congrArg (fun t : State => Host.Outcome.next t.settleDrain) stops

end Sys2Proof.Machine

/-! PROOFS. What every command and every step does whatever the state: a command answers a next state with the same
queue of waiting commands, and a step runs the command at the front of that queue. -/

namespace Sys2Proof.Machine

/-! ### The queue of waiting commands -/

/-- A state that agrees with another on `State.kept` has the same queue. -/
theorem State.pending_of_kept {s t : State} (h : t.kept = s.kept) : t.pending = s.pending := congrArg Kept.pending h

@[simp] theorem State.driveReset_pending (s : State) (asserted : Bool) :
    (s.driveReset asserted).pending = s.pending := by
  cases asserted <;> rfl

/-- R181: an event answers a next state, in or out of RESET; the end-of-drain check behind it keeps the queue. -/
theorem operate_keeps_pending {s : State} {effect : State → State} (h : (effect s).pending = s.pending) :
    ∃ t : State, operate s effect = .next t ∧ t.pending = s.pending := by
  cases hreset : s.inReset with
  | true => exact ⟨s, operate_inReset hreset effect, rfl⟩
  | false =>
    have settled : (effect s).settleDrain.pending = (effect s).pending :=
      State.pending_of_kept (State.settleDrain_kept _)
    exact ⟨_, operate_next hreset effect, settled.trans h⟩

/-- R180, R181: a bus cycle answers a next state, whether it is taken, held or not taken. -/
theorem busCommand_keeps_pending (s : State) (cycle : BusCycle) :
    ∃ t : State, busCommand s cycle = .next t ∧ t.pending = s.pending := by
  cases hreset : s.inReset with
  | true => exact ⟨s, busCommand_inReset hreset cycle, rfl⟩
  | false => exact ⟨s.hostCycle cycle, by simp [busCommand, hreset], s.hostCycle_pending cycle⟩

/-- Settles O3: a command is POWER_ON_RESET, the end of a grant, an event outside the queue, or a bus cycle. -/
theorem everyCommandAnswersANextState : Obligations.EveryCommandAnswersANextState := by
  intro c s
  obtain ⟨asserted, -, hc⟩ | hc | ⟨effect, hkept, hc⟩ | ⟨cycle, hc⟩ := exec_cases c <;> rw [hc]
  · exact ⟨_, rfl, s.driveReset_pending asserted⟩
  · exact operate_keeps_pending s.performGrant_pending
  · exact operate_keeps_pending (State.pending_of_kept (hkept s))
  · exact busCommand_keeps_pending s cycle

/-! ### The step -/

/-- Settles O1: the second arm of the step. -/
theorem stepRunsFrontCommand : Obligations.StepRunsFrontCommand := by
  intro c rest s hpending
  rw [step, hpending]

end Sys2Proof.Machine
